-- ==== Sys2Proof/Word.lean ====
section
/-! DEFINITION. The two widths of the block: a byte and a command word (spec/00_scope.md R11, spec/30_encoding.md R53). -/

namespace Sys2Proof

/-- A byte: 8 bits, unsigned (R11). -/
abbrev Byte := BitVec 8

/-- A command word as presented on the `cmd` port: 16 bits, no byte order (R53, R69). -/
abbrev Word := BitVec 16

end Sys2Proof
end

