-- ==== Sys2Proof/Config.lean ====
section
/-! DEFINITION. The build parameters of the block (spec/00_scope.md R6 to R10) and the one free value of the model. -/

namespace Sys2Proof

/-- The parameters of R6 to R9, fixed when the block is built (R10). -/
structure Config where
  /-- `SYNC`: the value of a frame's first byte (R6). -/
  sync : Byte
  /-- `LEN_ADJ`: how many non-payload bytes the length field counts, 1 or 2 (R7). -/
  lenAdj : Nat
  /-- `MAX_FRAME`: the largest number of bytes of one frame, 26 to 255 (R8). -/
  maxFrame : Nat
  /-- `RX_CAP`: the capacity of the receive buffer, MAX_FRAME to 255 (R9). -/
  rxCap : Nat
deriving DecidableEq, Repr

/-- The spec's own values of the parameters (the summary table after R10). -/
def Config.spec : Config := { sync := 0xC8#8, lenAdj := 1, maxFrame := 64, rxCap := 64 }

/-- A free value: a byte the spec leaves open (`any value`, I14 of spec/93_implementation_defined.md), one for each
count of values drawn so far. It has no body, so no proof can depend on which byte it is. Log entries 5 and 6. -/
opaque Config.freeByte : Nat → Byte

end Sys2Proof
end

