-- ==== Sys2Proof/Machine/Checksum.lean ====
section
/-! DEFINITION. The pure CRC function (spec/40_crc.md R73, R74; spec/00_scope.md R4, R5). -/

namespace Sys2Proof.Machine

open Sys2Proof

/-- `POLY`: the low 8 coefficients of x^8 + x^7 + x^6 + x^4 + x^2 + 1, the x^8 term implicit (R4). -/
def poly : Byte := 0xD5#8

/-- `CRC_INIT`: what the CRC register holds before the first byte (R5). -/
def crcStart : Byte := 0x00#8

/-- One pass of the loop of R74: shift out bit 7, and add the polynomial where it was 1. -/
def crc8Shift (c : Byte) : Byte :=
  if c.getLsbD 7 then (c <<< 1) ^^^ poly else c <<< 1

/-- `k` passes of the loop of R74. -/
def crc8Shifts : Nat → Byte → Byte
  | 0, c => c
  | k + 1, c => crc8Shifts k (crc8Shift c)

/-- `crc8_step(c, b)`: fold one byte into the remainder, most significant bit first (R74). -/
def crc8Step (c b : Byte) : Byte := crc8Shifts 8 (c ^^^ b)

/-- `crc8_step` over the bytes of a sequence, the first in time first. -/
def crc8From : Byte → List Byte → Byte
  | c, [] => c
  | c, b :: s => crc8From (crc8Step c b) s

/-- `crc8(s)` (R73): no reflection, no final exclusive-or. -/
def crc8 (s : List Byte) : Byte := crc8From crcStart s

end Sys2Proof.Machine
end

