-- ==== Sys2Proof/Syntax.lean ====
section
/-! DEFINITION. The instructions: the 21 commands of spec/opcode_table.json (R59 of spec/30_encoding.md).
Every command word has the one format C, opcode and `imm8` (R53), so every constructor carries its operand byte,
the ignored ones too: what ignoring means is then a claim about the machine (R61), and no bit of a word is dropped. -/

namespace Sys2Proof

/-- A command of the block. `imm8` is bits 7 to 0 of its word (R53, R54). -/
inductive Instr where
  /-- `NOP`, opcode 0x00, operand ignored (R120). -/
  | nop (imm8 : Byte)
  /-- `CRC_INIT`, opcode 0x01, operand ignored (R76). -/
  | crcInit (imm8 : Byte)
  /-- `CRC_UPDATE`, opcode 0x02, data byte (R77). -/
  | crcUpdate (imm8 : Byte)
  /-- `CRC_READ`, opcode 0x03, operand ignored (R79). -/
  | crcRead (imm8 : Byte)
  /-- `CRC_CHECK`, opcode 0x04, compare byte (R80). -/
  | crcCheck (imm8 : Byte)
  /-- `RX_PUSH`, opcode 0x10, data byte (R86). -/
  | rxPush (imm8 : Byte)
  /-- `RX_POLL`, opcode 0x11, operand ignored (R89). -/
  | rxPoll (imm8 : Byte)
  /-- `RX_FLUSH`, opcode 0x12, operand ignored (R97). -/
  | rxFlush (imm8 : Byte)
  /-- `RX_COUNT`, opcode 0x13, operand ignored (R98). -/
  | rxCount (imm8 : Byte)
  /-- `RX_RD_LEN`, opcode 0x14, operand ignored (R99). -/
  | rxRdLen (imm8 : Byte)
  /-- `RX_RD_TYPE`, opcode 0x15, operand ignored (R100). -/
  | rxRdType (imm8 : Byte)
  /-- `RX_RD_PLEN`, opcode 0x16, operand ignored (R101). -/
  | rxRdPlen (imm8 : Byte)
  /-- `RX_RD_PAY`, opcode 0x17, payload index (R102). -/
  | rxRdPay (imm8 : Byte)
  /-- `RX_RD_CRC`, opcode 0x18, operand ignored (R103). -/
  | rxRdCrc (imm8 : Byte)
  /-- `TX_SET_TYPE`, opcode 0x20, type byte (R108). -/
  | txSetType (imm8 : Byte)
  /-- `TX_PUT`, opcode 0x21, data byte (R109). -/
  | txPut (imm8 : Byte)
  /-- `TX_CLEAR`, opcode 0x22, operand ignored (R111). -/
  | txClear (imm8 : Byte)
  /-- `TX_SEND`, opcode 0x23, operand ignored (R113). -/
  | txSend (imm8 : Byte)
  /-- `TX_COUNT`, opcode 0x24, operand ignored (R115). -/
  | txCount (imm8 : Byte)
  /-- `ST_READ`, opcode 0x30, operand ignored (R123). -/
  | stRead (imm8 : Byte)
  /-- `ST_CLEAR`, opcode 0x31, clear mask (R121). -/
  | stClear (imm8 : Byte)
deriving DecidableEq, Repr

end Sys2Proof
end

