-- ==== Sys2Proof/WellFormed.lean ====
section
/-! DEFINITION. Well-formedness: the legal parameters (R7 to R9 of spec/00_scope.md), and the instructions an assembler
emits (R61, R66 of spec/30_encoding.md). The machine gives every instruction its meaning, well-formed or not: a word
with a non-zero ignored operand is legal and acts as its canonical form (R61, R63). -/

namespace Sys2Proof

/-- The parameters are legal: the ranges of R7, R8 and R9. -/
abbrev Config.Legal (c : Config) : Prop :=
  (c.lenAdj = 1 ∨ c.lenAdj = 2) ∧ 26 ≤ c.maxFrame ∧ c.maxFrame ≤ 255 ∧ c.maxFrame ≤ c.rxCap ∧ c.rxCap ≤ 255

/-- The operand byte of an instruction where the operand column of R59 says "ignored", and none where the command
uses it. -/
def Instr.ignoredOperand : Instr → Option Byte
  | .nop imm8 => some imm8
  | .crcInit imm8 => some imm8
  | .crcUpdate _ => none
  | .crcRead imm8 => some imm8
  | .crcCheck _ => none
  | .rxPush _ => none
  | .rxPoll imm8 => some imm8
  | .rxFlush imm8 => some imm8
  | .rxCount imm8 => some imm8
  | .rxRdLen imm8 => some imm8
  | .rxRdType imm8 => some imm8
  | .rxRdPlen imm8 => some imm8
  | .rxRdPay _ => none
  | .rxRdCrc imm8 => some imm8
  | .txSetType _ => none
  | .txPut _ => none
  | .txClear imm8 => some imm8
  | .txSend imm8 => some imm8
  | .txCount imm8 => some imm8
  | .stRead imm8 => some imm8
  | .stClear _ => none

/-- An instruction as an assembler emits it: an ignored operand is 0x00 (R61, R66). Log entry 7. -/
def Instr.wellFormed (i : Instr) : Bool :=
  match i.ignoredOperand with
  | some imm8 => imm8 == 0x00#8
  | none => true

end Sys2Proof
end

