-- ==== Sys2Proof/Decode.lean ====
section
/-! DEFINITION. Command words to instructions and back (spec/30_encoding.md R53, R59, R62, R65). -/

namespace Sys2Proof

/-- `w[15:8]` (R53). -/
def opcodeField (w : Word) : Byte := w.extractLsb' 8 8

/-- `w[7:0]`, used as it stands (R53, R54). -/
def imm8Field (w : Word) : Byte := w.extractLsb' 0 8

/-- Why a word is no command. -/
inductive DecodeError where
  /-- The opcode of the word is none of R59 (R62: `ILLEGAL`, with the whole word, as R65 answers it). -/
  | illegalWord (w : Word)
deriving DecidableEq, Repr

/-- `decode_cmd` of R65: total, one of the 21 commands of R59 or ILLEGAL; only the opcode selects the command. -/
def decode (w : Word) : Except DecodeError Instr :=
  match opcodeField w with
  | 0x00#8 => .ok (.nop (imm8Field w))
  | 0x01#8 => .ok (.crcInit (imm8Field w))
  | 0x02#8 => .ok (.crcUpdate (imm8Field w))
  | 0x03#8 => .ok (.crcRead (imm8Field w))
  | 0x04#8 => .ok (.crcCheck (imm8Field w))
  | 0x10#8 => .ok (.rxPush (imm8Field w))
  | 0x11#8 => .ok (.rxPoll (imm8Field w))
  | 0x12#8 => .ok (.rxFlush (imm8Field w))
  | 0x13#8 => .ok (.rxCount (imm8Field w))
  | 0x14#8 => .ok (.rxRdLen (imm8Field w))
  | 0x15#8 => .ok (.rxRdType (imm8Field w))
  | 0x16#8 => .ok (.rxRdPlen (imm8Field w))
  | 0x17#8 => .ok (.rxRdPay (imm8Field w))
  | 0x18#8 => .ok (.rxRdCrc (imm8Field w))
  | 0x20#8 => .ok (.txSetType (imm8Field w))
  | 0x21#8 => .ok (.txPut (imm8Field w))
  | 0x22#8 => .ok (.txClear (imm8Field w))
  | 0x23#8 => .ok (.txSend (imm8Field w))
  | 0x24#8 => .ok (.txCount (imm8Field w))
  | 0x30#8 => .ok (.stRead (imm8Field w))
  | 0x31#8 => .ok (.stClear (imm8Field w))
  | _ => .error (.illegalWord w)

/-- The opcode of a command, from the table of R59. -/
def Instr.opcode : Instr → Byte
  | .nop _ => 0x00#8
  | .crcInit _ => 0x01#8
  | .crcUpdate _ => 0x02#8
  | .crcRead _ => 0x03#8
  | .crcCheck _ => 0x04#8
  | .rxPush _ => 0x10#8
  | .rxPoll _ => 0x11#8
  | .rxFlush _ => 0x12#8
  | .rxCount _ => 0x13#8
  | .rxRdLen _ => 0x14#8
  | .rxRdType _ => 0x15#8
  | .rxRdPlen _ => 0x16#8
  | .rxRdPay _ => 0x17#8
  | .rxRdCrc _ => 0x18#8
  | .txSetType _ => 0x20#8
  | .txPut _ => 0x21#8
  | .txClear _ => 0x22#8
  | .txSend _ => 0x23#8
  | .txCount _ => 0x24#8
  | .stRead _ => 0x30#8
  | .stClear _ => 0x31#8

/-- The operand byte of a command, the ignored one too. -/
def Instr.imm8 : Instr → Byte
  | .nop imm8 => imm8
  | .crcInit imm8 => imm8
  | .crcUpdate imm8 => imm8
  | .crcRead imm8 => imm8
  | .crcCheck imm8 => imm8
  | .rxPush imm8 => imm8
  | .rxPoll imm8 => imm8
  | .rxFlush imm8 => imm8
  | .rxCount imm8 => imm8
  | .rxRdLen imm8 => imm8
  | .rxRdType imm8 => imm8
  | .rxRdPlen imm8 => imm8
  | .rxRdPay imm8 => imm8
  | .rxRdCrc imm8 => imm8
  | .txSetType imm8 => imm8
  | .txPut imm8 => imm8
  | .txClear imm8 => imm8
  | .txSend imm8 => imm8
  | .txCount imm8 => imm8
  | .stRead imm8 => imm8
  | .stClear imm8 => imm8

/-- A word of format C: the opcode in bits 15 to 8 (a row's `match` is `opcode << 8`, R59), `imm8` in bits 7 to 0
(R53, R69). -/
def formatC (opcode imm8 : Byte) : Word := opcode.setWidth 16 <<< 8 ||| imm8.setWidth 16

/-- The word of an instruction (R53, R59). -/
def encode (i : Instr) : Word := formatC i.opcode i.imm8

/-- A row of spec/opcode_table.json as a word: bit 0 of `w` is bit 0 of the word, and the bits from `nbits` up are 0.
A command is one word of 16 bits (R64), so nothing is kept above bit 15. -/
def tableWord (nbits w : Nat) : Word := BitVec.ofNat 16 (w % 2 ^ nbits)

/-- The instruction the decoder reads from a word numbered as spec/opcode_table.json numbers it. -/
def decodeTableWord (nbits w : Nat) : Option Instr :=
  match decode (tableWord nbits w) with
  | .ok i => some i
  | .error _ => none

end Sys2Proof
end

