-- ==== Sys2Proof/Machine/Operands.lean ====
section
/-! DEFINITION. The four ways a command reads its operand byte (spec/30_encoding.md R54), and the list notation of
spec/00_scope.md R12. -/

namespace Sys2Proof.Machine

open Sys2Proof

/-- `imm8` as a data byte: as it stands, never extended, scaled or shifted (R54). -/
def dataOperand (imm8 : Byte) : Byte := imm8

/-- `imm8` as a comparison value (R54). -/
def compareOperand (imm8 : Byte) : Byte := imm8

/-- `imm8` as a payload index, 0 to 255 (R54). -/
def indexOperand (imm8 : Byte) : Nat := imm8.toNat

/-- Bit `k` of `imm8` as a mask (R54, R121). -/
def maskBit (imm8 : Byte) (k : Nat) : Bool := imm8.getLsbD k

/-- `n[7:0]`: how a natural number is stored in an 8-bit field (R12). -/
def toByte (n : Nat) : Byte := BitVec.ofNat 8 n

/-- `zext_8` of a flag (R13). -/
def flagByte (b : Bool) : Byte := if b then 0x01#8 else 0x00#8

/-- `s[i]` (R12). It is only read at an `i` below `len(s)`; every use stands after that test. -/
def byteAt (s : List Byte) (i : Nat) : Byte := s.getD i 0x00#8

/-- `s[i:j]`: elements `i` to `j-1` (R12). -/
def slice (s : List Byte) (i j : Nat) : List Byte := (s.drop i).take (j - i)

end Sys2Proof.Machine
end

