-- ==== Sys2Proof/Machine/Codec.lean ====
section
/-! DEFINITION. The frame format (spec/30_encoding.md R55 to R58) and the two pure functions of the codec: `decode`
(spec/41_rx_decode.md R88) and `encode` (spec/42_tx_encode.md R112). They read only their arguments (R78, R88). -/

namespace Sys2Proof.Machine

open Sys2Proof

/-- `P_MAX = MAX_FRAME - 4`: the largest payload (R8). -/
def pMax (c : Config) : Nat := c.maxFrame - 4

/-- A decoded frame: the tuple `(L, t, P, pay, c)` of R88. -/
structure Frame where
  /-- `L`, the length byte. -/
  len : Byte
  /-- `t`, the type byte. -/
  type : Byte
  /-- `P`, the payload length. -/
  plen : Byte
  /-- `pay`, the payload. -/
  pay : List Byte
  /-- `c`, the CRC byte. -/
  crc : Byte
deriving DecidableEq, Repr

/-- A length failure: the length byte is outside `LEN_ADJ .. P_MAX + LEN_ADJ` (R58, R91 condition 2). -/
def lengthFailure (c : Config) (L : Byte) : Bool :=
  decide (L.toNat < c.lenAdj) || decide (pMax c < L.toNat - c.lenAdj)

/-- What one pass of the loop of R88 does with a non-empty buffer. -/
inductive Verdict where
  /-- Return NEED_MORE and leave the buffer as it is (R93). -/
  | wait
  /-- Drop the head byte and go on: a scanned byte (R90) or a failed candidate's sync byte (R92). -/
  | discard
  /-- A valid frame of `n` bytes stands at the head (R91). -/
  | found (f : Frame) (n : Nat)
deriving DecidableEq, Repr

/-- The end of the pass for a complete candidate with payload length `P`: the CRC check of R91 condition 4. -/
def judgeComplete (buf : List Byte) (P : Nat) : Verdict :=
  let L := byteAt buf 1
  let t := byteAt buf 2
  let pay := slice buf 3 (3 + P)
  let c := byteAt buf (3 + P)
  if crc8 (t :: pay) ≠ c then .discard
  else .found { len := L, type := t, plen := toByte P, pay := pay, crc := c } (P + 4)

/-- One pass of the loop of R88 over a buffer. -/
def judge (c : Config) (buf : List Byte) : Verdict :=
  if buf.length = 0 then .wait
  else if byteAt buf 0 ≠ c.sync then .discard
  else if buf.length < 2 then .wait
  else if lengthFailure c (byteAt buf 1) then .discard
  else if buf.length < (byteAt buf 1).toNat - c.lenAdj + 4 then .wait
  else judgeComplete buf ((byteAt buf 1).toNat - c.lenAdj)

/-- The result of `decode`: `res`, `rest` and, for FRAME, the frame (R88). -/
inductive DecodeResult where
  /-- `(NEED_MORE, rest, -)`. -/
  | needMore (rest : List Byte)
  /-- `(FRAME, rest, f)`. -/
  | frame (f : Frame) (rest : List Byte)
deriving DecidableEq, Repr

/-- `decode(buf)` of R88: passes until one returns; each other pass drops the head byte (R94). -/
def decodeBuf (c : Config) : List Byte → DecodeResult
  | [] => .needMore []
  | b :: buf =>
    match judge c (b :: buf) with
    | .wait => .needMore (b :: buf)
    | .discard => decodeBuf c buf
    | .found f n => .frame f ((b :: buf).drop n)

/-- `encode(t, pay)` of R112: the frame of R55. -/
def encodeFrame (c : Config) (t : Byte) (pay : List Byte) : List Byte :=
  [c.sync, toByte (pay.length + c.lenAdj), t] ++ pay ++ [crc8 (t :: pay)]

end Sys2Proof.Machine
end

