-- ==== Sys2Proof/Machine/State.lean ====
section
/-! DEFINITION. The state: the tuple of R18 (spec/10_state.md) and, around it, the build parameters, what is presented on
the ports, and the observation of R149 (spec/70_reset_and_hazards.md). -/

namespace Sys2Proof.Machine

open Sys2Proof

/-- One thing the outside presents to the block, in the one total order in which the block accepts it (R46). -/
inductive PortEvent where
  /-- The host presents a command word on `cmd`: any word (R35). -/
  | host (w : Word)
  /-- The transport delivers one received byte: it presents `RX_PUSH` of that byte (R35, R133). -/
  | transport (b : Byte)
  /-- `rst` is asserted; a command word may be presented meanwhile, which then has no effect (R130, R138). -/
  | reset (overlapping : Option Word)
deriving DecidableEq, Repr

/-- The block's state (R18, its 15 fields under their own names) and the model's fields around it. -/
@[ext]
structure State where
  /-- `CRC`: the host-visible CRC accumulator (R20). -/
  crc : Byte
  /-- `MATCH`: the result of the last `CRC_CHECK` (R21). -/
  matchFlag : Bool
  /-- `RXBUF`: the receive buffer, its head first (R22). -/
  rxbuf : List Byte
  /-- `FV`: the frame registers hold the frame of the last poll (R24). -/
  fv : Bool
  /-- `F_LEN`: the length field of the last decoded frame (R23). -/
  fLen : Byte
  /-- `F_TYPE`: the type byte of the last decoded frame (R23). -/
  fType : Byte
  /-- `F_PLEN`: the payload length of the last decoded frame (R23). -/
  fPlen : Byte
  /-- `F_PAY`: the payload of the last decoded frame (R23). -/
  fPay : List Byte
  /-- `F_CRC`: the CRC byte of the last decoded frame (R23). -/
  fCrc : Byte
  /-- `TX_TYPE`: the type byte of the frame to send (R25). -/
  txType : Byte
  /-- `TX_PAY`: the payload of the frame to send (R26). -/
  txPay : List Byte
  /-- `RXOVF`, sticky: a received byte was dropped, buffer full (R27). -/
  rxovf : Bool
  /-- `TXOVF`, sticky: a payload byte was dropped, staging full (R27). -/
  txovf : Bool
  /-- `RANGE`, sticky: a payload read was out of range (R27). -/
  range : Bool
  /-- `ILL`, sticky: an illegal command word was presented (R27). -/
  ill : Bool
  /-- The build parameters (R10): no command reads them out or writes them. Log entry 1. -/
  cfg : Config
  /-- What the outside has still to present, next first (R35, R46). Log entry 2. -/
  port : List PortEvent
  /-- The `rdata` values given so far, one per command, oldest first (R32, R149). Log entry 3. -/
  responses : List Byte
  /-- The transport log: the byte sequences written on `tx`, oldest first (R35). Log entry 4. -/
  txLog : List (List Byte)
  /-- How many free values have been drawn: the model's own counter. Log entry 5. -/
  drawn : Nat
deriving DecidableEq, Repr

/-- The reasons a step stops with a fault: none. The block takes no exceptions and no traps, and never stops or hangs
(R125, R127, R150), so nothing raises one. Safe: no behaviour is cut off. -/
inductive Fault where
deriving DecidableEq, Repr

/-- The reasons the model refuses a step. -/
inductive Refusal where
  /-- Raised by an arm of `exec` whose instruction has no meaning yet; no arm of this model is one. Safe: such an arm
  stops where the hardware goes on. -/
  | notModelled (mnemonic : String)
deriving DecidableEq, Repr

/-- The machine right after reset with the build parameters `c`: every field of R18 at its value in R37, nothing
presented yet, nothing answered and nothing written. -/
def State.resetWith (c : Config) : State :=
  { crc := 0x00#8, matchFlag := false, rxbuf := [], fv := false
    fLen := 0x00#8, fType := 0x00#8, fPlen := 0x00#8, fPay := [], fCrc := 0x00#8
    txType := 0x00#8, txPay := []
    rxovf := false, txovf := false, range := false, ill := false
    cfg := c, port := [], responses := [], txLog := [], drawn := 0 }

/-- The machine right after reset, with the spec's values of the parameters (R37, and the summary after R10). -/
def State.reset : State := State.resetWith Config.spec

/-- The value on the `rdata` port: the response of the last command, none before the first (R32). -/
def State.rdata (s : State) : Option Byte := s.responses.getLast?

end Sys2Proof.Machine
end

