-- ==== Sys2Proof/Machine/Flags.lean ====
section
/-! DEFINITION. The status byte (spec/10_state.md R28), setting a sticky bit (R27, spec/60_exceptions.md R126) and
clearing sticky bits (spec/43_control.md R121). These stand where a processor has its exceptions: an error condition is
recorded and the command completes (R125, R127), and only `ST_CLEAR` and reset undo the record (R132). -/

namespace Sys2Proof.Machine

open Sys2Proof

/-- The error conditions of R126. -/
inductive ErrorCondition where
  /-- `RX_PUSH` into a full buffer (R87). -/
  | rxovf
  /-- `TX_PUT` into full staging (R110). -/
  | txovf
  /-- `RX_RD_PAY` at an index at or beyond `F_PLEN` (R102). -/
  | range
  /-- An illegal command word (R122). -/
  | ill
deriving DecidableEq, Repr

/-- The code of a condition: its bit number in `ST` (R126). -/
def ErrorCondition.code : ErrorCondition → Nat
  | .rxovf => 2
  | .txovf => 3
  | .range => 4
  | .ill => 5

/-- `set_sticky(B)` (R13): the bit only, no byte, index, word or count is recorded (R126). -/
def State.setSticky (e : ErrorCondition) (s : State) : State :=
  match e with
  | .rxovf => { s with rxovf := true }
  | .txovf => { s with txovf := true }
  | .range => { s with range := true }
  | .ill => { s with ill := true }

/-- The sticky bits that stay after a clear with this mask; mask bits 0, 1, 6 and 7 are ignored (R121). -/
def State.clearSticky (mask : Byte) (s : State) : State :=
  { s with
    rxovf := s.rxovf && !(maskBit mask 2)
    txovf := s.txovf && !(maskBit mask 3)
    range := s.range && !(maskBit mask 4)
    ill := s.ill && !(maskBit mask 5) }

/-- `ST = ILL<<5 | RANGE<<4 | TXOVF<<3 | RXOVF<<2 | MATCH<<1 | FV`; bits 6 and 7 are hardwired to 0 (R28). -/
def State.st (s : State) : Byte :=
  flagByte s.ill <<< 5 ||| flagByte s.range <<< 4 ||| flagByte s.txovf <<< 3 ||| flagByte s.rxovf <<< 2
    ||| flagByte s.matchFlag <<< 1 ||| flagByte s.fv

end Sys2Proof.Machine
end

