-- ==== Sys2Proof/Machine/Ops.lean ====
section
/-! DEFINITION. The named operations on the state that the commands share: answering `rdata`, writing each field of R18,
writing a frame on `tx`, taking an illegal word, taking a reset, and what is presented on the ports. -/

namespace Sys2Proof.Machine

open Sys2Proof

/-- `rdata <- v`: the response of the current command (R13, R60). -/
def State.respond (v : Byte) (s : State) : State := { s with responses := s.responses ++ [v] }

/-- `CRC <- v` (R20). -/
def State.setCrc (v : Byte) (s : State) : State := { s with crc := v }

/-- `MATCH <- m` (R21). -/
def State.setMatch (m : Bool) (s : State) : State := { s with matchFlag := m }

/-- `RXBUF <- buf` (R22). -/
def State.setRxbuf (buf : List Byte) (s : State) : State := { s with rxbuf := buf }

/-- `FV <- v` (R24). -/
def State.setFv (v : Bool) (s : State) : State := { s with fv := v }

/-- `(F_LEN, F_TYPE, F_PLEN, F_PAY, F_CRC) <- f`: all five together (R23, R89). -/
def State.setFrame (f : Frame) (s : State) : State :=
  { s with fLen := f.len, fType := f.type, fPlen := f.plen, fPay := f.pay, fCrc := f.crc }

/-- `TX_TYPE <- t` (R25). -/
def State.setTxType (t : Byte) (s : State) : State := { s with txType := t }

/-- `TX_PAY <- pay` (R26). -/
def State.setTxPay (pay : List Byte) (s : State) : State := { s with txPay := pay }

/-- `emit_tx(bytes)`: one write on `tx`, always accepted, appended to the transport log (R44, R113, R118). -/
def State.emitTx (bytes : List Byte) (s : State) : State := { s with txLog := s.txLog ++ [bytes] }

/-- The byte `F_PAY[i]`. Where `F_PAY` has no byte `i`, which R33 rules out in every reachable state for an `i` below
`F_PLEN`, a free value. Log entry 6. -/
def State.payByte (s : State) (i : Nat) : Byte := (s.fPay[i]?).getD (Config.freeByte s.drawn)

/-- Taking an illegal command word: `set_sticky(ILL); rdata <- 0x00`, no other state changes, and the block goes on
(R122, R127). -/
def State.takeIllegal (s : State) : State := (s.setSticky .ill).respond 0x00#8

/-- Taking a reset: every field of R18 at its value in R37, in one step (R138). What lies outside the block stays: the
parameters (R10), what has still to be presented, the responses given and the frames already written (R139). Log entry 5. -/
def State.takeReset (s : State) : State :=
  { State.resetWith s.cfg with
    port := s.port, responses := s.responses, txLog := s.txLog, drawn := s.drawn }

/-- The response of a command that overlaps reset: the command has no effect, and its `rdata` is any value (R130; I14 of
spec/93_implementation_defined.md): a free value, and the counter moves on. Log entry 5. -/
def State.respondFree (s : State) : State :=
  { s.respond (Config.freeByte s.drawn) with drawn := s.drawn + 1 }

/-- A reset, with the command it overlaps, if any (R130, R138). -/
def State.resetOver (overlapping : Option Word) (s : State) : State :=
  match overlapping with
  | none => s.takeReset
  | some _ => s.takeReset.respondFree

/-- The word the transport presents for a received byte: `RX_PUSH b`, `0x10bb` (R35, R86). -/
def pushWord (b : Byte) : Word := formatC 0x10#8 b

/-- What the block accepts next. -/
inductive Accepted where
  /-- Nothing is presented: no transaction takes place. Log entry 2. -/
  | nothing
  /-- `rst` is asserted (R138). -/
  | reset (overlapping : Option Word)
  /-- A word whose opcode is none of R59 (R62). -/
  | illegal (w : Word)
  /-- A command (R65). -/
  | command (i : Instr)
deriving DecidableEq, Repr

/-- A command word as the block accepts it (R65). -/
def acceptWord (w : Word) : Accepted :=
  match decode w with
  | .ok i => .command i
  | .error _ => .illegal w

/-- An event as the block accepts it: which agent presents a word makes no difference to it (R133). -/
def acceptEvent : PortEvent → Accepted
  | .host w => acceptWord w
  | .transport b => acceptWord (pushWord b)
  | .reset overlapping => .reset overlapping

/-- What the block accepts in this step: the next event presented (R46). -/
def State.accepted (s : State) : Accepted :=
  match s.port with
  | [] => .nothing
  | e :: _ => acceptEvent e

/-- The state once the next event is taken off the ports. -/
def State.consume (s : State) : State := { s with port := s.port.tail }

/-- The outside presents further events, after those already presented. -/
def State.present (events : List PortEvent) (s : State) : State := { s with port := s.port ++ events }

/-- The outside presents one event before all others. -/
def State.presentNext (e : PortEvent) (s : State) : State := { s with port := e :: s.port }

end Sys2Proof.Machine
end

