-- ==== Sys2Proof/Machine/Control.lean ====
section
/-! DEFINITION. The control and status family (spec/43_control.md). -/

namespace Sys2Proof.Machine

open Sys2Proof

/-- `NOP` (R120): `rdata <- 0x00`, no state changes. -/
def execNop (_imm8 : Byte) (s : State) : Host.Outcome State Fault Refusal :=
  .next (s.respond 0x00#8)

/-- `ST_READ` (R123): `rdata <- ST`; reading clears nothing. -/
def execStRead (_imm8 : Byte) (s : State) : Host.Outcome State Fault Refusal :=
  .next (s.respond s.st)

/-- `ST_CLEAR imm8` (R121): clear the sticky bits the mask selects; `rdata <- 0x00`. -/
def execStClear (imm8 : Byte) (s : State) : Host.Outcome State Fault Refusal :=
  .next ((s.clearSticky imm8).respond 0x00#8)

end Sys2Proof.Machine
end

