-- ==== Sys2Proof/Machine/Crc.lean ====
section
/-! DEFINITION. The CRC family (spec/40_crc.md section 2). -/

namespace Sys2Proof.Machine

open Sys2Proof

/-- `CRC_INIT` (R76): `CRC <- CRC_INIT; rdata <- 0x00`. -/
def execCrcInit (_imm8 : Byte) (s : State) : Host.Outcome State Fault Refusal :=
  .next ((s.setCrc crcStart).respond 0x00#8)

/-- `CRC_UPDATE imm8` (R77): `CRC <- crc8_step(CRC, imm8); rdata <- 0x00`. -/
def execCrcUpdate (imm8 : Byte) (s : State) : Host.Outcome State Fault Refusal :=
  .next ((s.setCrc (crc8Step s.crc (dataOperand imm8))).respond 0x00#8)

/-- `CRC_READ` (R79): `rdata <- CRC`. -/
def execCrcRead (_imm8 : Byte) (s : State) : Host.Outcome State Fault Refusal :=
  .next (s.respond s.crc)

/-- `CRC_CHECK imm8` (R80): `MATCH` and `rdata` say whether `CRC` equals the operand. -/
def execCrcCheck (imm8 : Byte) (s : State) : Host.Outcome State Fault Refusal :=
  let m := s.crc == compareOperand imm8
  .next ((s.setMatch m).respond (flagByte m))

end Sys2Proof.Machine
end

