-- ==== Sys2Proof/Machine/Rx.lean ====
section
/-! DEFINITION. The receive and decode family (spec/41_rx_decode.md sections 2 to 4). -/

namespace Sys2Proof.Machine

open Sys2Proof

/-- `RX_PUSH imm8` (R86): append the byte, or drop it and set `RXOVF` when the buffer is full (R87). -/
def execRxPush (imm8 : Byte) (s : State) : Host.Outcome State Fault Refusal :=
  if s.rxbuf.length < s.cfg.rxCap then .next ((s.setRxbuf (s.rxbuf ++ [dataOperand imm8])).respond 0x00#8)
  else .next ((s.setSticky .rxovf).respond 0x00#8)

/-- `RX_POLL` (R89): run the decoder once; on FRAME the frame registers are written together. -/
def execRxPoll (_imm8 : Byte) (s : State) : Host.Outcome State Fault Refusal :=
  match decodeBuf s.cfg s.rxbuf with
  | .frame f rest => .next ((((s.setRxbuf rest).setFrame f).setFv true).respond 0x01#8)
  | .needMore rest => .next (((s.setRxbuf rest).setFv false).respond 0x00#8)

/-- `RX_FLUSH` (R97): `RXBUF <- []; rdata <- 0x00`. -/
def execRxFlush (_imm8 : Byte) (s : State) : Host.Outcome State Fault Refusal :=
  .next ((s.setRxbuf []).respond 0x00#8)

/-- `RX_COUNT` (R98): `rdata <- len(RXBUF)`. -/
def execRxCount (_imm8 : Byte) (s : State) : Host.Outcome State Fault Refusal :=
  .next (s.respond (toByte s.rxbuf.length))

/-- `RX_RD_LEN` (R99): `rdata <- F_LEN`, whatever `FV` is (R104). -/
def execRxRdLen (_imm8 : Byte) (s : State) : Host.Outcome State Fault Refusal :=
  .next (s.respond s.fLen)

/-- `RX_RD_TYPE` (R100): `rdata <- F_TYPE`, whatever `FV` is (R104). -/
def execRxRdType (_imm8 : Byte) (s : State) : Host.Outcome State Fault Refusal :=
  .next (s.respond s.fType)

/-- `RX_RD_PLEN` (R101): `rdata <- F_PLEN`, whatever `FV` is (R104). -/
def execRxRdPlen (_imm8 : Byte) (s : State) : Host.Outcome State Fault Refusal :=
  .next (s.respond s.fPlen)

/-- `RX_RD_PAY imm8` (R102): `F_PAY[imm8]`, or `RANGE` and 0x00 at an index at or beyond `F_PLEN`. -/
def execRxRdPay (imm8 : Byte) (s : State) : Host.Outcome State Fault Refusal :=
  if indexOperand imm8 < s.fPlen.toNat then .next (s.respond (s.payByte (indexOperand imm8)))
  else .next ((s.setSticky .range).respond 0x00#8)

/-- `RX_RD_CRC` (R103): `rdata <- F_CRC`, whatever `FV` is (R104). -/
def execRxRdCrc (_imm8 : Byte) (s : State) : Host.Outcome State Fault Refusal :=
  .next (s.respond s.fCrc)

end Sys2Proof.Machine
end

