-- ==== Sys2Proof/Machine/Tx.lean ====
section
/-! DEFINITION. The transmit and encode family (spec/42_tx_encode.md sections 2 and 3). -/

namespace Sys2Proof.Machine

open Sys2Proof

/-- `TX_SET_TYPE imm8` (R108): `TX_TYPE <- imm8; rdata <- 0x00`. -/
def execTxSetType (imm8 : Byte) (s : State) : Host.Outcome State Fault Refusal :=
  .next ((s.setTxType (dataOperand imm8)).respond 0x00#8)

/-- `TX_PUT imm8` (R109): append the byte, or drop it and set `TXOVF` when staging is full (R110). -/
def execTxPut (imm8 : Byte) (s : State) : Host.Outcome State Fault Refusal :=
  if s.txPay.length < pMax s.cfg then .next ((s.setTxPay (s.txPay ++ [dataOperand imm8])).respond 0x00#8)
  else .next ((s.setSticky .txovf).respond 0x00#8)

/-- `TX_CLEAR` (R111): `TX_PAY <- []; rdata <- 0x00`. -/
def execTxClear (_imm8 : Byte) (s : State) : Host.Outcome State Fault Refusal :=
  .next ((s.setTxPay []).respond 0x00#8)

/-- `TX_SEND` (R113): one write of `encode(TX_TYPE, TX_PAY)`; the staging is unchanged. -/
def execTxSend (_imm8 : Byte) (s : State) : Host.Outcome State Fault Refusal :=
  .next ((s.emitTx (encodeFrame s.cfg s.txType s.txPay)).respond 0x00#8)

/-- `TX_COUNT` (R115): `rdata <- len(TX_PAY)`. -/
def execTxCount (_imm8 : Byte) (s : State) : Host.Outcome State Fault Refusal :=
  .next (s.respond (toByte s.txPay.length))

end Sys2Proof.Machine
end

