-- ==== Sys2Proof/Machine/Dispatch.lean ====
section
/-! DEFINITION. The meaning of every command of the opcode table, one arm each (spec/30_encoding.md R59). -/

namespace Sys2Proof.Machine

open Sys2Proof

def exec (i : Instr) (s : State) : Host.Outcome State Fault Refusal :=
  match i with
  | .nop imm8 => Sys2Proof.Machine.execNop imm8 s
  | .crcInit imm8 => Sys2Proof.Machine.execCrcInit imm8 s
  | .crcUpdate imm8 => Sys2Proof.Machine.execCrcUpdate imm8 s
  | .crcRead imm8 => Sys2Proof.Machine.execCrcRead imm8 s
  | .crcCheck imm8 => Sys2Proof.Machine.execCrcCheck imm8 s
  | .rxPush imm8 => Sys2Proof.Machine.execRxPush imm8 s
  | .rxPoll imm8 => Sys2Proof.Machine.execRxPoll imm8 s
  | .rxFlush imm8 => Sys2Proof.Machine.execRxFlush imm8 s
  | .rxCount imm8 => Sys2Proof.Machine.execRxCount imm8 s
  | .rxRdLen imm8 => Sys2Proof.Machine.execRxRdLen imm8 s
  | .rxRdType imm8 => Sys2Proof.Machine.execRxRdType imm8 s
  | .rxRdPlen imm8 => Sys2Proof.Machine.execRxRdPlen imm8 s
  | .rxRdPay imm8 => Sys2Proof.Machine.execRxRdPay imm8 s
  | .rxRdCrc imm8 => Sys2Proof.Machine.execRxRdCrc imm8 s
  | .txSetType imm8 => Sys2Proof.Machine.execTxSetType imm8 s
  | .txPut imm8 => Sys2Proof.Machine.execTxPut imm8 s
  | .txClear imm8 => Sys2Proof.Machine.execTxClear imm8 s
  | .txSend imm8 => Sys2Proof.Machine.execTxSend imm8 s
  | .txCount imm8 => Sys2Proof.Machine.execTxCount imm8 s
  | .stRead imm8 => Sys2Proof.Machine.execStRead imm8 s
  | .stClear imm8 => Sys2Proof.Machine.execStClear imm8 s

end Sys2Proof.Machine
end

