-- ==== Sys2Proof/Machine/Step.lean ====
section
/-! DEFINITION. One step: the block accepts what is presented next and answers it, as one atomic transaction
(spec/00_scope.md R14, spec/20_memory.md R46). -/

namespace Sys2Proof.Machine

open Sys2Proof

/-- One step. With nothing presented there is no transaction and nothing changes (log entry 2). -/
def step (s : State) : Host.Outcome State Fault Refusal :=
  match s.accepted with
  | .nothing => .next s
  | .reset overlapping => .next (s.consume.resetOver overlapping)
  | .illegal _ => .next s.consume.takeIllegal
  | .command i => exec i s.consume

/-- `s` with a word of the opcode table presented by the host before everything else, so that the next step runs it.
The block fetches no instructions (R31): presenting on `cmd` is how a command reaches it. Log entry 2. -/
def State.withFetchWord (s : State) (nbits w : Nat) : State := s.presentNext (.host (tableWord nbits w))

end Sys2Proof.Machine
end

