-- ==== Sys2Proof/Machine/Assembler.lean ====
section
/-! DEFINITION. The assembler: source lines to command words (spec/30_encoding.md R61, R66 to R69). It stands outside the
block: the block only sees the words. Log entry 8 names the spelling details R66 leaves open. -/

namespace Sys2Proof.Machine

open Sys2Proof

/-- Why a line is refused. -/
inductive AsmError where
  /-- The first word of the line is no mnemonic and no pseudo-instruction; an illegal opcode has none (R66). -/
  | unknownMnemonic
  /-- An operand on a command whose operand is ignored (R66). -/
  | unexpectedOperand
  /-- No operand on a command that uses one (R66). -/
  | missingOperand
  /-- More operands than the command takes. DESIGN CHOICE, log entry 8. -/
  | tooManyOperands
  /-- An operand that is no decimal and no hex number (R66). -/
  | notANumber
  /-- An operand outside 0..255: refused, never truncated (R67). -/
  | operandOutOfRange
deriving DecidableEq, Repr

/-- What a source line says. -/
inductive SourceLine where
  /-- A blank line or a comment alone: no command. DESIGN CHOICE, log entry 8: R66 is silent on a line without one. -/
  | empty
  /-- One command (R66). -/
  | command (i : Instr)
  /-- `.word 0xHHHH` (R66). -/
  | rawWord (w : Word)
  /-- `CRC8 b0, ..., bn-1` (R68). -/
  | crc8 (bytes : List Byte)
  /-- `CRC_BYTES b0, ..., bn-1` (R68). -/
  | crcBytes (bytes : List Byte)
  /-- `RX_FEED b0, ..., bn-1` (R68). -/
  | rxFeed (bytes : List Byte)
  /-- `TX_FRAME t, b0, ..., bn-1` (R68). -/
  | txFrame (t : Byte) (bytes : List Byte)
  /-- `ST_CLEAR_ALL` (R68). -/
  | stClearAll
deriving DecidableEq, Repr

/-- The commands a line stands for, in order: the expansions of R68, with 0x00 for an ignored operand (R61, R66). -/
def SourceLine.commands : SourceLine → List Instr
  | .empty => []
  | .command i => [i]
  | .rawWord _ => []
  | .crc8 bytes => .crcInit 0x00#8 :: bytes.map Instr.crcUpdate ++ [.crcRead 0x00#8]
  | .crcBytes bytes => bytes.map Instr.crcUpdate
  | .rxFeed bytes => bytes.map Instr.rxPush
  | .txFrame t bytes => .txClear 0x00#8 :: .txSetType t :: bytes.map Instr.txPut ++ [.txSend 0x00#8]
  | .stClearAll => [.stClear 0x3C#8]

/-- The words a line stands for, in the order in which they are presented. -/
def SourceLine.words : SourceLine → List Word
  | .rawWord w => [w]
  | line => line.commands.map encode

/-- The commands by name (R59): a mnemonic, and the command it makes of an operand byte. -/
def mnemonics : List (String × (Byte → Instr)) :=
  [("NOP", .nop), ("CRC_INIT", .crcInit), ("CRC_UPDATE", .crcUpdate), ("CRC_READ", .crcRead),
   ("CRC_CHECK", .crcCheck), ("RX_PUSH", .rxPush), ("RX_POLL", .rxPoll), ("RX_FLUSH", .rxFlush)] ++
  [("RX_COUNT", .rxCount), ("RX_RD_LEN", .rxRdLen), ("RX_RD_TYPE", .rxRdType), ("RX_RD_PLEN", .rxRdPlen),
   ("RX_RD_PAY", .rxRdPay), ("RX_RD_CRC", .rxRdCrc), ("TX_SET_TYPE", .txSetType), ("TX_PUT", .txPut)] ++
  [("TX_CLEAR", .txClear), ("TX_SEND", .txSend), ("TX_COUNT", .txCount), ("ST_READ", .stRead),
   ("ST_CLEAR", .stClear)]

/-- White space between the parts of a line. -/
def isBlank (ch : Char) : Bool := ch == ' ' || ch == '\t'

/-- `s` without white space at both ends. -/
def trim (s : List Char) : List Char := ((s.dropWhile isBlank).reverse.dropWhile isBlank).reverse

/-- The value of a digit in base 16 (and so in base 10), if it is one. -/
def digitValue (ch : Char) : Option Nat :=
  if '0' ≤ ch ∧ ch ≤ '9' then some (ch.toNat - '0'.toNat)
  else if 'A' ≤ ch ∧ ch ≤ 'F' then some (ch.toNat - 'A'.toNat + 10)
  else if 'a' ≤ ch ∧ ch ≤ 'f' then some (ch.toNat - 'a'.toNat + 10)
  else none

/-- Digits in `base`, after the value `acc` of those before them. -/
def digitsValue (base : Nat) : Nat → List Char → Option Nat
  | acc, [] => some acc
  | acc, ch :: rest =>
    match digitValue ch with
    | some d => if d < base then digitsValue base (acc * base + d) rest else none
    | none => none

/-- A number: decimal digits, or `0x` and hex digits; at least one digit (R66). -/
def parseNumber : List Char → Option Nat
  | '0' :: 'x' :: d :: digits => digitsValue 16 0 (d :: digits)
  | d :: digits => digitsValue 10 0 (d :: digits)
  | [] => none

/-- An operand byte: a number 0..255; another number is refused, never truncated (R66, R67). -/
def parseByte (s : List Char) : Except AsmError Byte :=
  match parseNumber s with
  | none => .error .notANumber
  | some n => if n < 256 then .ok (BitVec.ofNat 8 n) else .error .operandOutOfRange

/-- The operand of `.word`: `0x` and exactly four hex digits (R66, R69). -/
def parseWord : List Char → Except AsmError Word
  | ['0', 'x', a, b, c, d] =>
    match digitsValue 16 0 [a, b, c, d] with
    | some n => .ok (BitVec.ofNat 16 n)
    | none => .error .notANumber
  | _ => .error .notANumber

/-- The digit of a value below 16, as listings write it (R69). -/
def hexDigit (d : Nat) : Char := if d < 10 then Char.ofNat ('0'.toNat + d) else Char.ofNat ('A'.toNat + (d - 10))

/-- A command word as listings write it: four hex digits `0xHHLL`, `HH` the opcode and `LL` the operand (R69). -/
def listing (w : Word) : List Char :=
  let n := w.toNat
  ['0', 'x', hexDigit (n / 4096), hexDigit (n / 256 % 16), hexDigit (n / 16 % 16), hexDigit (n % 16)]

/-- Every operand of a list as a byte; the first that is refused refuses the line. -/
def parseBytes : List (List Char) → Except AsmError (List Byte)
  | [] => .ok []
  | s :: rest =>
    match parseByte s, parseBytes rest with
    | .ok b, .ok bs => .ok (b :: bs)
    | .error e, _ => .error e
    | .ok _, .error e => .error e

/-- The parts of `s` between commas, without white space around them. -/
def splitOperands : List Char → List (List Char)
  | [] => [[]]
  | ch :: rest =>
    if ch == ',' then [] :: splitOperands rest
    else
      match splitOperands rest with
      | part :: parts => (ch :: part) :: parts
      | [] => [[ch]]

/-- The operands of a line: none where only white space is left, else the parts between commas. -/
def operandsOf (s : List Char) : List (List Char) :=
  if trim s = [] then [] else (splitOperands s).map trim

/-- A command by its constructor: an operand exactly where the command uses one (R66). -/
def assembleCommand (mk : Byte → Instr) (operands : List (List Char)) : Except AsmError SourceLine :=
  match (mk 0x00#8).ignoredOperand, operands with
  | some _, [] => .ok (.command (mk 0x00#8))
  | some _, _ :: _ => .error .unexpectedOperand
  | none, [] => .error .missingOperand
  | none, [s] =>
    match parseByte s with
    | .ok b => .ok (.command (mk b))
    | .error e => .error e
  | none, _ :: _ :: _ => .error .tooManyOperands

/-- A pseudo-instruction that takes a list of bytes. -/
def assembleBytes (mk : List Byte → SourceLine) (operands : List (List Char)) : Except AsmError SourceLine :=
  match parseBytes operands with
  | .ok bytes => .ok (mk bytes)
  | .error e => .error e

/-- `.word` (R66): any word, also one whose opcode is legal. DESIGN CHOICE, log entry 8: R66 says only that an illegal
opcode can be written in no other way. -/
def assembleRaw : List (List Char) → Except AsmError SourceLine
  | [] => .error .missingOperand
  | [s] =>
    match parseWord s with
    | .ok w => .ok (.rawWord w)
    | .error e => .error e
  | _ :: _ :: _ => .error .tooManyOperands

/-- `TX_FRAME t, b0, ..., bn-1` (R68): the type is not optional. -/
def assembleTxFrame (operands : List (List Char)) : Except AsmError SourceLine :=
  match parseBytes operands with
  | .ok (t :: bytes) => .ok (.txFrame t bytes)
  | .ok [] => .error .missingOperand
  | .error e => .error e

/-- `ST_CLEAR_ALL` (R68) takes no operand. -/
def assembleClearAll : List (List Char) → Except AsmError SourceLine
  | [] => .ok .stClearAll
  | _ :: _ => .error .unexpectedOperand

/-- A line by its first word and its operands (R66, R68). -/
def assembleNamed (name : List Char) (operands : List (List Char)) : Except AsmError SourceLine :=
  match mnemonics.find? (fun row => row.1.toList == name) with
  | some row => assembleCommand row.2 operands
  | none =>
    if name = ".word".toList then assembleRaw operands
    else if name = "CRC8".toList then assembleBytes .crc8 operands
    else if name = "CRC_BYTES".toList then assembleBytes .crcBytes operands
    else if name = "RX_FEED".toList then assembleBytes .rxFeed operands
    else if name = "TX_FRAME".toList then assembleTxFrame operands
    else if name = "ST_CLEAR_ALL".toList then assembleClearAll operands
    else .error .unknownMnemonic

/-- A source line: what stands before `;`, its first word a name, the rest its operands (R66). A line with nothing there
but white space is accepted and stands for no words: DESIGN CHOICE, log entry 8. -/
def assembleLine (line : List Char) : Except AsmError SourceLine :=
  let code := trim (line.takeWhile (· != ';'))
  if code = [] then .ok .empty
  else assembleNamed (code.takeWhile (fun ch => !isBlank ch)) (operandsOf (code.dropWhile (fun ch => !isBlank ch)))

/-- A whole program: the words of its lines in order, or the first refusal. That a refused line refuses the whole program is
a DESIGN CHOICE, log entry 8. -/
def assemble : List (List Char) → Except AsmError (List Word)
  | [] => .ok []
  | line :: rest =>
    match assembleLine line, assemble rest with
    | .ok l, .ok ws => .ok (l.words ++ ws)
    | .error e, _ => .error e
    | .ok _, .error e => .error e

end Sys2Proof.Machine
end

