-- ==== Sys2Proof/Safety.lean ====
section
/-! DEFINITION. What counts as a safe run and the terms claims are stated in: the invariant of R33, a clean run (R127),
valid frames (R17), runs, the streams a run pushes, folds and yields (R48, R81, R106), and error patterns (R83). -/

namespace Sys2Proof.Machine

open Sys2Proof

/-! ### States -/

/-- The invariants of R33. -/
abbrev State.Inv (s : State) : Prop :=
  s.rxbuf.length ≤ s.cfg.rxCap ∧
  s.txPay.length ≤ pMax s.cfg ∧
  (s.fPlen.toNat = s.fPay.length ∧ s.fPlen.toNat ≤ pMax s.cfg) ∧
  (0 < s.fPlen.toNat ∨ s.fLen ≠ 0x00#8 →
    s.fLen.toNat = s.fPlen.toNat + s.cfg.lenAdj ∧ s.fCrc = crc8 (s.fType :: s.fPay)) ∧
  (s.st.getLsbD 6 = false ∧ s.st.getLsbD 7 = false)

/-- No error is recorded: the postcondition R127 gives a claim that the host used the block correctly. -/
abbrev State.Clean (s : State) : Prop :=
  s.rxovf = false ∧ s.txovf = false ∧ s.range = false ∧ s.ill = false

/-- The five frame registers as one frame (R23). -/
def State.frameRegs (s : State) : Frame :=
  { len := s.fLen, type := s.fType, plen := s.fPlen, pay := s.fPay, crc := s.fCrc }

/-- The two states agree on all of the block's own state (R18). -/
abbrev State.SameBlock (s t : State) : Prop :=
  s.crc = t.crc ∧ s.matchFlag = t.matchFlag ∧ s.rxbuf = t.rxbuf ∧ s.fv = t.fv ∧ s.frameRegs = t.frameRegs ∧
  s.txType = t.txType ∧ s.txPay = t.txPay ∧
  s.rxovf = t.rxovf ∧ s.txovf = t.txovf ∧ s.range = t.range ∧ s.ill = t.ill

/-! ### Frames -/

/-- The bytes of a frame on the wire (R55). -/
def Frame.wire (c : Config) (f : Frame) : List Byte := [c.sync, f.len, f.type] ++ f.pay ++ [f.crc]

/-- What R17 and R91 ask of the fields of a frame. -/
abbrev Frame.Valid (c : Config) (f : Frame) : Prop :=
  f.len.toNat = f.pay.length + c.lenAdj ∧ f.plen.toNat = f.pay.length ∧ f.pay.length ≤ pMax c ∧
  f.crc = crc8 (f.type :: f.pay)

/-- The frame the encoder makes of a type and a payload (R55, R56, R57). -/
def frameOf (c : Config) (t : Byte) (pay : List Byte) : Frame :=
  { len := toByte (pay.length + c.lenAdj), type := t, plen := toByte pay.length, pay := pay, crc := crc8 (t :: pay) }

/-- At most `n` polls of a buffer into which nothing more is pushed: the frames, and what is left. -/
def drainFor (c : Config) : Nat → List Byte → List Frame × List Byte
  | 0, buf => ([], buf)
  | n + 1, buf =>
    match decodeBuf c buf with
    | .needMore rest => ([], rest)
    | .frame f rest => (f :: (drainFor c n rest).1, (drainFor c n rest).2)

/-- Polling a buffer until NEED_MORE (R106): every frame takes bytes away, so its length bounds the polls. -/
def drain (c : Config) (buf : List Byte) : List Frame × List Byte := drainFor c (buf.length + 1) buf

/-- A stream laid out as noise and frames in turn: each frame with the noise in front of it. -/
def layout (c : Config) : List (List Byte × Frame) → List Byte
  | [] => []
  | (noise, f) :: more => noise ++ f.wire c ++ layout c more

/-! ### Runs -/

/-- `n` steps of the machine. -/
def runFor (n : Nat) (s : State) : Host.Outcome State Fault Refusal := Host.Core.run Sys2Proof.core n s

/-- Host commands in order, as they are presented. -/
def hostWords (ws : List Word) : List PortEvent := ws.map .host

/-- Received bytes in order, as the transport presents them. -/
def transportBytes (bs : List Byte) : List PortEvent := bs.map .transport

/-- The list a function collects from the states before each of the next `n` steps. -/
def collect {α : Type} (f : State → List α) : Nat → State → List α
  | 0, _ => []
  | n + 1, s =>
    match step s with
    | .next t => f s ++ collect f n t
    | .fault _ => f s
    | .refused _ => f s

/-- A condition on the states before each of the next `n` steps. -/
def always (p : State → Bool) : Nat → State → Bool
  | 0, _ => true
  | n + 1, s =>
    match step s with
    | .next t => p s && always p n t
    | .fault _ => p s
    | .refused _ => p s

/-- The byte the next step pushes, if it is an `RX_PUSH`. -/
def State.pushes (s : State) : List Byte :=
  match s.accepted with
  | .command (.rxPush b) => [b]
  | _ => []

/-- The byte the next step folds into `CRC`, if it is a `CRC_UPDATE`. -/
def State.folds (s : State) : List Byte :=
  match s.accepted with
  | .command (.crcUpdate b) => [b]
  | _ => []

/-- The frame the next step yields: the frame registers after an `RX_POLL` that sets `FV` (R89). -/
def State.yields (s : State) : List Frame :=
  match s.accepted, step s with
  | .command (.rxPoll _), .next t => if t.fv then [t.frameRegs] else []
  | _, _ => []

/-- The next step loses no received byte: no push into a full buffer, no `RX_FLUSH`, no reset (R48, R106). -/
def State.losesNothing (s : State) : Bool :=
  match s.accepted with
  | .command (.rxPush _) => decide (s.rxbuf.length < s.cfg.rxCap)
  | .command (.rxFlush _) => false
  | .reset _ => false
  | _ => true

/-- The next step does not restart the CRC: no `CRC_INIT` and no reset (R81). -/
def State.keepsCrc (s : State) : Bool :=
  match s.accepted with
  | .command (.crcInit _) => false
  | .reset _ => false
  | _ => true

/-! ### The CRC as arithmetic, and error patterns -/

/-- A byte sequence as one number, its first bit in time the highest: the message polynomial over GF(2) (R74). -/
def messageNat (s : List Byte) : Nat := s.foldl (fun n b => n * 256 + b.toNat) 0

/-- `G(x) = x^8 + x^7 + x^6 + x^4 + x^2 + 1`, all nine coefficients (R4, R74). -/
def generator : Nat := 0x1D5

/-- The sum over GF(2) of shifted copies of the generator: a multiple of `G(x)`. -/
def generatorMultiple (shifts : List Nat) : Nat := shifts.foldr (fun k n => (generator <<< k) ^^^ n) 0

/-- Bytewise exclusive or of two sequences. -/
def xorBytes (s e : List Byte) : List Byte := List.zipWith (· ^^^ ·) s e

/-- The bits of a sequence, first in time first: bit 7 of a byte is its first bit (R41, R74). -/
def bitsOf (s : List Byte) : List Bool := s.flatMap fun b => (List.range 8).map fun k => b.getLsbD (7 - k)

/-- The check of R83 over type, payload and CRC byte: the last byte is the CRC of those before it. -/
def checkPasses (w : List Byte) : Bool := crc8 w.dropLast == w.getLastD 0x00#8

/-- The checked bytes of a frame: type, payload, CRC byte (R57, R83). -/
def checkedBytes (t : Byte) (pay : List Byte) : List Byte := t :: pay ++ [crc8 (t :: pay)]

/-- The error pattern flips exactly one bit. -/
abbrev FlipsOneBit (e : List Byte) : Prop := (bitsOf e).count true = 1

/-- The error pattern flips an odd number of bits. -/
abbrev FlipsOddly (e : List Byte) : Prop := (bitsOf e).count true % 2 = 1

/-- The error pattern is a burst of length 8 or less: some bit is flipped, and all flipped bits lie within 8
consecutive places. -/
def BurstOfEight (e : List Byte) : Prop :=
  ∃ (before : Nat) (burst : List Bool) (after : Nat),
    bitsOf e = List.replicate before false ++ burst ++ List.replicate after false ∧
    burst.length ≤ 8 ∧ true ∈ burst

/-- The error pattern flips exactly two bits, `k` bit positions apart. -/
def FlipsTwoBits (k : Nat) (e : List Byte) : Prop :=
  ∃ before after : Nat, 0 < k ∧
    bitsOf e = List.replicate before false ++ [true] ++ List.replicate (k - 1) false ++ [true] ++
      List.replicate after false

end Sys2Proof.Machine
end

