-- ==== Sys2Proof/Certificates/Slice0/Obligations.lean ====
section
/-! DEFINITION. The statements for the provers, from the numbered rules of spec/. Where a statement says
`exec i s = .next { s with … }`, that one equation says the result, that the command completes, and the frame: every field
not written in it is as before (no register, flag, buffer, parameter, pending event, response or written frame besides). The
first clause of a command's statement is its rule's Encoding line: the word in format C (R53) with that opcode, and any
operand byte, decodes to it. -/

open Sys2Proof Sys2Proof.Machine

/-! ### CRC family -/

/-- R76: `CRC_INIT` writes 0x00 into `CRC` and answers 0x00; nothing else changes. -/
def Obligations.CrcInitClearsTheAccumulator : Prop :=
  (∀ x : Byte, decode (formatC 0x01#8 x) = .ok (.crcInit x)) ∧
  ∀ (x : Byte) (s : State),
    exec (.crcInit x) s = .next { s with crc := 0x00#8, responses := s.responses ++ [0x00#8] }

/-- R77: `CRC_UPDATE` folds its operand into `CRC` and answers 0x00; nothing else changes. With the corner cases of R77. -/
def Obligations.CrcUpdateFoldsOneByte : Prop :=
  (∀ b : Byte, decode (formatC 0x02#8 b) = .ok (.crcUpdate b)) ∧
  (∀ (b : Byte) (s : State),
    exec (.crcUpdate b) s = .next { s with crc := crc8Step s.crc b, responses := s.responses ++ [0x00#8] }) ∧
  (∀ c : Byte, crc8Step c c = 0x00#8)

/-- R79: `CRC_READ` answers `CRC`; no state changes. -/
def Obligations.CrcReadAnswersTheAccumulator : Prop :=
  (∀ x : Byte, decode (formatC 0x03#8 x) = .ok (.crcRead x)) ∧
  ∀ (x : Byte) (s : State), exec (.crcRead x) s = .next { s with responses := s.responses ++ [s.crc] }

/-- R80: `CRC_CHECK` writes `MATCH` with whether `CRC` equals its operand, and answers 0x01 or 0x00; `CRC` is unchanged. -/
def Obligations.CrcCheckComparesAndWritesMatch : Prop :=
  (∀ b : Byte, decode (formatC 0x04#8 b) = .ok (.crcCheck b)) ∧
  ∀ (b : Byte) (s : State),
    (s.crc = b → exec (.crcCheck b) s =
      .next { s with matchFlag := true, responses := s.responses ++ [0x01#8] }) ∧
    (s.crc ≠ b → exec (.crcCheck b) s =
      .next { s with matchFlag := false, responses := s.responses ++ [0x00#8] })

/-- R75: the table form of the step, and that the table is linear. -/
def Obligations.CrcStepIsALinearTable : Prop :=
  (∀ c b : Byte, crc8Step c b = crc8Step 0x00#8 (c ^^^ b)) ∧
  (∀ a b : Byte, crc8Step 0x00#8 (a ^^^ b) = crc8Step 0x00#8 a ^^^ crc8Step 0x00#8 b) ∧
  crc8Step 0x00#8 0x00#8 = 0x00#8 ∧ crc8Step 0x00#8 0x01#8 = 0xD5#8 ∧ crc8Step 0x00#8 0x80#8 = 0xEF#8

/-- R74 ("This is division by G(x)"), over a whole sequence: the message polynomial times x^8 is a multiple of `G(x)` plus
`crc8`, which has degree below 8. -/
def Obligations.CrcIsThePolynomialRemainder : Prop :=
  ∀ s : List Byte, ∃ shifts : List Nat,
    messageNat s <<< 8 = generatorMultiple shifts ^^^ (crc8 s).toNat

/-- R82: `crc8` is linear over sequences of equal length, and 0x00 for any sequence of zero bytes. -/
def Obligations.CrcIsLinear : Prop :=
  (∀ a b : List Byte, a.length = b.length → crc8 (xorBytes a b) = crc8 a ^^^ crc8 b) ∧
  (∀ n : Nat, crc8 (List.replicate n 0x00#8) = 0x00#8)

/-- R81: after `CRC_INIT`, whatever runs without another `CRC_INIT` and without a reset, `CRC` is `crc8` of the bytes
folded in, and a `CRC_READ` then answers it. Folding the CRC byte itself in gives 0x00. -/
def Obligations.AccumulatorComputesCrc8 : Prop :=
  (∀ (x y : Byte) (s s₀ t : State) (n : Nat),
    exec (.crcInit x) s = .next s₀ → runFor n s₀ = .next t → always State.keepsCrc n s₀ = true →
    exec (.crcRead y) t = .next { t with responses := t.responses ++ [crc8 (collect State.folds n s₀)] }) ∧
  (∀ B : List Byte, crc8 (B ++ [crc8 B]) = 0x00#8)

/-- R83: over the checked bytes of a frame, every single-bit error, every odd number of flipped bits, every burst of length
8 or less and every two flipped bits less than 93 positions apart fail the check; two bits 93 apart pass it. -/
def Obligations.CrcDetectsErrors : Prop :=
  (∀ (t : Byte) (pay e : List Byte), e.length = pay.length + 2 →
    FlipsOneBit e ∨ FlipsOddly e ∨ BurstOfEight e ∨ (∃ k < 93, FlipsTwoBits k e) →
    checkPasses (xorBytes (checkedBytes t pay) e) = false) ∧
  (∀ (t : Byte) (pay e : List Byte), e.length = pay.length + 2 → FlipsTwoBits 93 e →
    checkPasses (xorBytes (checkedBytes t pay) e) = true)

/-! ### Receive and decode family -/

/-- R86, R87: `RX_PUSH` appends its operand to `RXBUF` where there is room; into a full buffer it drops the byte and sets
`RXOVF`. It answers 0x00, and touches only `RXBUF` and `RXOVF`. -/
def Obligations.PushAppendsOrRecordsOverflow : Prop :=
  (∀ b : Byte, decode (formatC 0x10#8 b) = .ok (.rxPush b)) ∧
  ∀ (b : Byte) (s : State),
    (s.rxbuf.length < s.cfg.rxCap → exec (.rxPush b) s =
      .next { s with rxbuf := s.rxbuf ++ [b], responses := s.responses ++ [0x00#8] }) ∧
    (s.cfg.rxCap ≤ s.rxbuf.length → exec (.rxPush b) s =
      .next { s with rxovf := true, responses := s.responses ++ [0x00#8] })

/-- R89: `RX_POLL` runs the decoder once. FRAME writes the five frame registers together, sets `FV` and answers 0x01;
NEED_MORE clears `FV`, keeps the frame registers and answers 0x00. `RXBUF` is what the decoder leaves. -/
def Obligations.PollRunsTheDecoderOnce : Prop :=
  (∀ x : Byte, decode (formatC 0x11#8 x) = .ok (.rxPoll x)) ∧
  ∀ (x : Byte) (s : State),
    (∀ f rest, decodeBuf s.cfg s.rxbuf = .frame f rest → exec (.rxPoll x) s =
      .next { s with rxbuf := rest, fLen := f.len, fType := f.type, fPlen := f.plen, fPay := f.pay, fCrc := f.crc,
                     fv := true, responses := s.responses ++ [0x01#8] }) ∧
    (∀ rest, decodeBuf s.cfg s.rxbuf = .needMore rest → exec (.rxPoll x) s =
      .next { s with rxbuf := rest, fv := false, responses := s.responses ++ [0x00#8] })

/-- R88, R90: bytes at the head that are not `SYNC` are removed and scanning goes on; what a NEED_MORE leaves has no noise
in front of its sync byte. (A FRAME leaves the bytes behind the frame unscanned, as R88 returns them.) -/
def Obligations.DecoderScansNoiseAway : Prop :=
  ∀ (c : Config) (noise buf : List Byte),
    ((∀ b ∈ noise, b ≠ c.sync) → decodeBuf c (noise ++ buf) = decodeBuf c buf) ∧
    (∀ rest, decodeBuf c buf = .needMore rest → rest = [] ∨ ∃ more, rest = c.sync :: more)

/-- R91, R92: a length byte out of range, or a complete candidate whose CRC does not match, loses exactly its sync byte, and
the bytes after it are scanned again. The length failure is judged without waiting for more bytes. -/
def Obligations.DecoderDropsOnlyTheSyncOfAFailedCandidate : Prop :=
  ∀ (c : Config) (L t crc : Byte) (pay more body : List Byte),
    ((L.toNat < c.lenAdj ∨ pMax c + c.lenAdj < L.toNat) →
      decodeBuf c (c.sync :: L :: body) = decodeBuf c (L :: body)) ∧
    (L.toNat = pay.length + c.lenAdj → pay.length ≤ pMax c → crc8 (t :: pay) ≠ crc →
      decodeBuf c (c.sync :: L :: t :: (pay ++ crc :: more)) = decodeBuf c (L :: t :: (pay ++ crc :: more)))

/-- R93: the decoder waits, leaving the buffer as it is, in exactly three cases: it is empty, it is a lone `SYNC`, or it
begins with `SYNC` and an in-range length but holds fewer than `P + 4` bytes. -/
def Obligations.DecoderWaitsInExactlyThreeCases : Prop :=
  ∀ (c : Config) (buf : List Byte),
    decodeBuf c buf = .needMore buf ↔
      buf = [] ∨ buf = [c.sync] ∨
      ∃ (L : Byte) (body : List Byte), buf = c.sync :: L :: body ∧
        c.lenAdj ≤ L.toNat ∧ L.toNat ≤ pMax c + c.lenAdj ∧ buf.length < L.toNat - c.lenAdj + 4

/-- R17, R91: every frame the decoder yields is valid, stands whole in the buffer after the bytes that are discarded, and
is removed with them; what remains is the rest of the buffer. -/
def Obligations.DecoderYieldsOnlyValidFrames : Prop :=
  ∀ (c : Config) (buf rest : List Byte) (f : Frame), decodeBuf c buf = .frame f rest →
    f.Valid c ∧ ∃ discarded : List Byte, buf = discarded ++ f.wire c ++ rest

/-- R95: a NEED_MORE leaves at most `MAX_FRAME - 1` bytes, and from there no `RX_PUSH` overflows in any run that pushes at
most `RX_CAP - MAX_FRAME + 1` bytes, whatever other events fall between them. -/
def Obligations.PollingDutyPreventsOverflow : Prop :=
  (∀ (c : Config) (buf rest : List Byte), c.Legal → decodeBuf c buf = .needMore rest →
    rest.length ≤ c.maxFrame - 1) ∧
  (∀ (n : Nat) (s t : State), s.cfg.Legal → s.rxbuf.length ≤ s.cfg.maxFrame - 1 →
    (collect State.pushes n s).length ≤ s.cfg.rxCap - s.cfg.maxFrame + 1 → runFor n s = .next t →
    t.rxovf = true → s.rxovf = true)

/-- R96: where `RXBUF` begins with an encoded frame, `RX_POLL` yields exactly its type and payload and removes exactly its
bytes. -/
def Obligations.PollDecodesWhatTheEncoderEncodes : Prop :=
  ∀ (x t : Byte) (pay rest : List Byte) (s : State),
    s.cfg.Legal → pay.length ≤ pMax s.cfg → s.rxbuf = encodeFrame s.cfg t pay ++ rest →
    exec (.rxPoll x) s =
      .next { s with rxbuf := rest, fLen := toByte (pay.length + s.cfg.lenAdj), fType := t, fPlen := toByte pay.length,
                     fPay := pay, fCrc := crc8 (t :: pay), fv := true, responses := s.responses ++ [0x01#8] }

/-- R97, R111: `RX_FLUSH` empties `RXBUF` and `TX_CLEAR` empties `TX_PAY`; each answers 0x00 and changes nothing else. -/
def Obligations.FlushAndClearEmptyTheirBuffers : Prop :=
  (∀ x : Byte, decode (formatC 0x12#8 x) = .ok (.rxFlush x)) ∧
  (∀ x : Byte, decode (formatC 0x22#8 x) = .ok (.txClear x)) ∧
  ∀ (x : Byte) (s : State),
    exec (.rxFlush x) s = .next { s with rxbuf := [], responses := s.responses ++ [0x00#8] } ∧
    exec (.txClear x) s = .next { s with txPay := [], responses := s.responses ++ [0x00#8] }

/-- R98, R115: `RX_COUNT` and `TX_COUNT` answer the lengths of `RXBUF` and `TX_PAY`, which fit in a byte under the
invariants of R33; no state changes. -/
def Obligations.CountsAnswerTheLengths : Prop :=
  (∀ x : Byte, decode (formatC 0x13#8 x) = .ok (.rxCount x)) ∧
  (∀ x : Byte, decode (formatC 0x24#8 x) = .ok (.txCount x)) ∧
  ∀ (x : Byte) (s : State), s.cfg.Legal → s.Inv →
    (∃ v : Byte, v.toNat = s.rxbuf.length ∧
      exec (.rxCount x) s = .next { s with responses := s.responses ++ [v] }) ∧
    (∃ v : Byte, v.toNat = s.txPay.length ∧ v.toNat ≤ pMax s.cfg ∧
      exec (.txCount x) s = .next { s with responses := s.responses ++ [v] })

/-- R99, R100, R101, R103: the four frame register reads answer the register as retained, whatever `FV` is; no state
changes. -/
def Obligations.FrameReadsAnswerTheRetainedRegisters : Prop :=
  (∀ x : Byte, decode (formatC 0x14#8 x) = .ok (.rxRdLen x)) ∧
  (∀ x : Byte, decode (formatC 0x15#8 x) = .ok (.rxRdType x)) ∧
  (∀ x : Byte, decode (formatC 0x16#8 x) = .ok (.rxRdPlen x)) ∧
  (∀ x : Byte, decode (formatC 0x18#8 x) = .ok (.rxRdCrc x)) ∧
  ∀ (x : Byte) (s : State) (v : Bool),
    exec (.rxRdLen x) { s with fv := v } = .next { s with fv := v, responses := s.responses ++ [s.fLen] } ∧
    exec (.rxRdType x) { s with fv := v } = .next { s with fv := v, responses := s.responses ++ [s.fType] } ∧
    exec (.rxRdPlen x) { s with fv := v } = .next { s with fv := v, responses := s.responses ++ [s.fPlen] } ∧
    exec (.rxRdCrc x) { s with fv := v } = .next { s with fv := v, responses := s.responses ++ [s.fCrc] }

/-- R102: `RX_RD_PAY` answers the payload byte at its index, or sets `RANGE` and answers 0x00 at an index at or beyond
`F_PLEN`. The invariants of R33 rule out the states in which `F_PAY` is not `F_PLEN` long. -/
def Obligations.PayloadReadIsIndexedAndRangeChecked : Prop :=
  (∀ i : Byte, decode (formatC 0x17#8 i) = .ok (.rxRdPay i)) ∧
  ∀ (i : Byte) (s : State), s.Inv →
    (∀ h : i.toNat < s.fPay.length, exec (.rxRdPay i) s =
      .next { s with responses := s.responses ++ [s.fPay[i.toNat]] }) ∧
    (s.fPlen.toNat ≤ i.toNat → exec (.rxRdPay i) s =
      .next { s with range := true, responses := s.responses ++ [0x00#8] })

/-- R106 item 1, for the decoder: bytes appended later never change a discard or a yielded frame, so decoding a longer
buffer is decoding its first part and going on with what that left. -/
def Obligations.AppendedBytesNeverChangeADecision : Prop :=
  ∀ (c : Config) (buf ext : List Byte),
    (∀ f rest, decodeBuf c buf = .frame f rest → decodeBuf c (buf ++ ext) = .frame f (rest ++ ext)) ∧
    (∀ rest, decodeBuf c buf = .needMore rest → decodeBuf c (buf ++ ext) = decodeBuf c (rest ++ ext))

/-- R106 item 1, for the machine: in a run that loses no received byte, the frames yielded by the polls of the run,
followed by those of polling until NEED_MORE at its end, are the frames of polling the whole stream at once, wherever the
polls fell; and the same bytes are left. -/
def Obligations.FramesDependOnlyOnTheStream : Prop :=
  ∀ (n : Nat) (s t : State), runFor n s = .next t → always State.losesNothing n s = true →
    collect State.yields n s ++ (drain s.cfg t.rxbuf).1 = (drain s.cfg (s.rxbuf ++ collect State.pushes n s)).1 ∧
    (drain s.cfg t.rxbuf).2 = (drain s.cfg (s.rxbuf ++ collect State.pushes n s)).2

/-- R106 item 2: a corrupt byte between two encoded frames is dropped, and both frames are yielded, for every value of the
byte, when `SYNC > P_MAX + LEN_ADJ`. -/
def Obligations.CorruptByteBetweenFramesIsDropped : Prop :=
  ∀ (c : Config) (x t₁ t₂ : Byte) (p₁ p₂ : List Byte), c.Legal → pMax c + c.lenAdj < c.sync.toNat →
    p₁.length ≤ pMax c → p₂.length ≤ pMax c →
    drain c (encodeFrame c t₁ p₁ ++ [x] ++ encodeFrame c t₂ p₂) = ([frameOf c t₁ p₁, frameOf c t₂ p₂], [])

/-- R48, R106 item 3: the frames yielded over a run that loses no received byte stand in the stream one after another,
each whole, in the order in which they were yielded, with only discarded bytes between them and the bytes still buffered
behind them. -/
def Obligations.YieldedFramesAreDisjointAndInStreamOrder : Prop :=
  ∀ (n : Nat) (s t : State), runFor n s = .next t → always State.losesNothing n s = true →
    ∃ (parts : List (List Byte × Frame)) (tail : List Byte),
      collect State.yields n s = parts.map Prod.snd ∧
      s.rxbuf ++ collect State.pushes n s = layout s.cfg parts ++ tail ++ t.rxbuf

/-! ### Transmit and encode family -/

/-- R108: `TX_SET_TYPE` writes its operand into `TX_TYPE` and answers 0x00; `TX_PAY` and all else are unchanged. -/
def Obligations.SetTypeStagesTheTypeByte : Prop :=
  (∀ b : Byte, decode (formatC 0x20#8 b) = .ok (.txSetType b)) ∧
  ∀ (b : Byte) (s : State),
    exec (.txSetType b) s = .next { s with txType := b, responses := s.responses ++ [0x00#8] }

/-- R109, R110: `TX_PUT` appends its operand to `TX_PAY` below `P_MAX`; at `P_MAX` it drops the byte and sets `TXOVF`. -/
def Obligations.PutAppendsOrRecordsOverflow : Prop :=
  (∀ b : Byte, decode (formatC 0x21#8 b) = .ok (.txPut b)) ∧
  ∀ (b : Byte) (s : State),
    (s.txPay.length < pMax s.cfg → exec (.txPut b) s =
      .next { s with txPay := s.txPay ++ [b], responses := s.responses ++ [0x00#8] }) ∧
    (pMax s.cfg ≤ s.txPay.length → exec (.txPut b) s =
      .next { s with txovf := true, responses := s.responses ++ [0x00#8] })

/-- R112, R113: `TX_SEND` hands the transport one byte sequence, laid out as R55 says, and leaves the staging as it is. -/
def Obligations.SendWritesOneEncodedFrame : Prop :=
  (∀ x : Byte, decode (formatC 0x23#8 x) = .ok (.txSend x)) ∧
  ∀ (x : Byte) (s : State),
    exec (.txSend x) s =
      .next { s with
        txLog := s.txLog ++ [[s.cfg.sync, BitVec.ofNat 8 (s.txPay.length + s.cfg.lenAdj), s.txType] ++ s.txPay
          ++ [crc8 ([s.txType] ++ s.txPay)]]
        responses := s.responses ++ [0x00#8] }

/-- R116: every frame `TX_SEND` writes is valid: the decoder takes it whole and yields the staged type and payload. -/
def Obligations.SentFramesAreValid : Prop :=
  ∀ (x : Byte) (s : State), s.cfg.Legal → s.Inv →
    ∃ (bytes : List Byte) (t : State), exec (.txSend x) s = .next t ∧ t.txLog = s.txLog ++ [bytes] ∧
      decodeBuf s.cfg bytes = .frame (frameOf s.cfg s.txType s.txPay) [] ∧
      (frameOf s.cfg s.txType s.txPay).Valid s.cfg ∧ bytes = (frameOf s.cfg s.txType s.txPay).wire s.cfg

/-- R114, R141: an empty payload is sent as a 4-byte frame, and `TX_SEND` straight from reset sends
`[SYNC, LEN_ADJ, 0x00, 0x00]`, whatever the parameters. -/
def Obligations.EmptyPayloadAndBootFrames : Prop :=
  ∀ (c : Config) (x t : Byte) (s : State),
    (s.txType = t → s.txPay = [] → exec (.txSend x) s =
      .next { s with txLog := s.txLog ++ [[s.cfg.sync, BitVec.ofNat 8 s.cfg.lenAdj, t, crc8 [t]]]
                     responses := s.responses ++ [0x00#8] }) ∧
    exec (.txSend x) (State.resetWith c) =
      .next { State.resetWith c with txLog := [[c.sync, BitVec.ofNat 8 c.lenAdj, 0x00#8, 0x00#8]]
                                     responses := [0x00#8] }

/-- R68, R110: running `TX_FRAME t, b0, ..., bn-1` sends the first `P_MAX` bytes as a frame of type `t`, and records in
`TXOVF` whether any byte was cut; one response per command. -/
def Obligations.TxFrameSendsAtMostPMaxBytes : Prop :=
  ∀ (t : Byte) (bytes : List Byte) (rest : List PortEvent) (s : State),
    s.port = hostWords (SourceLine.txFrame t bytes).words ++ rest →
    runFor (bytes.length + 3) s =
      .next { s with
        txType := t, txPay := bytes.take (pMax s.cfg)
        txovf := s.txovf || decide (pMax s.cfg < bytes.length)
        txLog := s.txLog ++ [encodeFrame s.cfg t (bytes.take (pMax s.cfg))]
        port := rest, responses := s.responses ++ List.replicate (bytes.length + 3) 0x00#8 }

/-- R117: the transmit commands neither read nor write `CRC`, `MATCH`, `RXBUF`, `FV` and the frame registers: from two
states that differ in those only, they go to two states that differ in those only, each keeping its own. -/
def Obligations.TransmitPathIgnoresTheReceivePath : Prop :=
  ∀ (i : Instr) (s t : State) (c : Byte) (m v : Bool) (buf pay : List Byte) (l ty p k : Byte),
    (∃ x, i = .txSetType x ∨ i = .txPut x ∨ i = .txClear x ∨ i = .txSend x ∨ i = .txCount x) →
    exec i s = .next t →
    exec i { s with crc := c, matchFlag := m, rxbuf := buf, fv := v, fLen := l, fType := ty, fPlen := p, fPay := pay,
                    fCrc := k } =
      .next { t with crc := c, matchFlag := m, rxbuf := buf, fv := v, fLen := l, fType := ty, fPlen := p, fPay := pay,
                     fCrc := k }

/-! ### Control and status family -/

/-- R120: `NOP` answers 0x00; no state changes. -/
def Obligations.NopChangesNothing : Prop :=
  (∀ x : Byte, decode (formatC 0x00#8 x) = .ok (.nop x)) ∧
  ∀ (x : Byte) (s : State), exec (.nop x) s = .next { s with responses := s.responses ++ [0x00#8] }

/-- R28, R123: `ST_READ` answers the status byte, whose bits 0 to 5 are `FV`, `MATCH`, `RXOVF`, `TXOVF`, `RANGE` and `ILL`
and whose bits 6 and 7 are 0; reading changes nothing. -/
def Obligations.StatusReadAssemblesTheFlags : Prop :=
  (∀ x : Byte, decode (formatC 0x30#8 x) = .ok (.stRead x)) ∧
  ∀ (x : Byte) (s : State), ∃ st : Byte,
    exec (.stRead x) s = .next { s with responses := s.responses ++ [st] } ∧
    st.getLsbD 0 = s.fv ∧ st.getLsbD 1 = s.matchFlag ∧ st.getLsbD 2 = s.rxovf ∧ st.getLsbD 3 = s.txovf ∧
    st.getLsbD 4 = s.range ∧ st.getLsbD 5 = s.ill ∧ st.getLsbD 6 = false ∧ st.getLsbD 7 = false

/-- R121: `ST_CLEAR` clears exactly the sticky bits its mask selects, answers 0x00 and changes nothing else; masks that
agree on bits 2 to 5 act alike. -/
def Obligations.StatusClearClearsTheSelectedBits : Prop :=
  (∀ m : Byte, decode (formatC 0x31#8 m) = .ok (.stClear m)) ∧
  (∀ (m : Byte) (s : State),
    exec (.stClear m) s =
      .next { s with
        rxovf := if m.getLsbD 2 then false else s.rxovf
        txovf := if m.getLsbD 3 then false else s.txovf
        range := if m.getLsbD 4 then false else s.range
        ill := if m.getLsbD 5 then false else s.ill
        responses := s.responses ++ [0x00#8] }) ∧
  (∀ (m m' : Byte) (s : State), m &&& 0x3C#8 = m' &&& 0x3C#8 → exec (.stClear m) s = exec (.stClear m') s)

/-- R122: a word whose opcode is none of R59 sets `ILL` and answers 0x00; nothing else changes and the block goes on. -/
def Obligations.IllegalWordSetsOnlyIll : Prop :=
  ∀ (w : Word) (rest : List PortEvent) (s : State),
    let op := (opcodeField w).toNat
    ((5 ≤ op ∧ op ≤ 0x0F) ∨ (0x19 ≤ op ∧ op ≤ 0x1F) ∨ (0x25 ≤ op ∧ op ≤ 0x2F) ∨ 0x32 ≤ op) →
    s.port = .host w :: rest →
    step s = .next { s with ill := true, port := rest, responses := s.responses ++ [0x00#8] }

/-! ### Encoding -/

/-- R62, R65: decoding is total; it rejects exactly the words whose opcode is in the illegal ranges of R62, by name. -/
def Obligations.IllegalOpcodesAreExactlyThoseOfTheTable : Prop :=
  ∀ w : Word,
    let op := (opcodeField w).toNat
    ((5 ≤ op ∧ op ≤ 0x0F) ∨ (0x19 ≤ op ∧ op ≤ 0x1F) ∨ (0x25 ≤ op ∧ op ≤ 0x2F) ∨ 0x32 ≤ op →
      decode w = .error (.illegalWord w)) ∧
    (¬ ((5 ≤ op ∧ op ≤ 0x0F) ∨ (0x19 ≤ op ∧ op ≤ 0x1F) ∨ (0x25 ≤ op ∧ op ≤ 0x2F) ∨ 0x32 ≤ op) →
      ∃ i, decode w = .ok i ∧ i.opcode = opcodeField w ∧ i.imm8 = imm8Field w)

/-- R53, R59: decoding the word of an instruction gives the instruction, with every operand value, the ignored ones too;
and a word that decodes to an instruction is the word of that instruction. -/
def Obligations.DecodeAndEncodeAgree : Prop :=
  (∀ i : Instr, decode (encode i) = .ok i) ∧ (∀ (w : Word) (i : Instr), decode w = .ok i → encode i = w)

/-- R59, R69: words written out from the opcode map decode to the commands they stand for. -/
def Obligations.SampleWordsDecode : Prop :=
  decode 0b0000001000110001#16 = .ok (.crcUpdate 0x31#8) ∧ decode 0b0001000010111111#16 = .ok (.rxPush 0xBF#8) ∧
  decode 0b0010001100000000#16 = .ok (.txSend 0x00#8) ∧ decode 0b0011000100111100#16 = .ok (.stClear 0x3C#8) ∧
  decode 0b0100000000000000#16 = .error (.illegalWord 0x4000#16)

/-- R61: the operand of a command whose operand is ignored has no effect on the next state or on `rdata`. -/
def Obligations.IgnoredOperandHasNoEffect : Prop :=
  ∀ (w w' : Word) (i : Instr) (b : Byte) (rest : List PortEvent) (s : State),
    decode w = .ok i → i.ignoredOperand = some b → opcodeField w' = opcodeField w →
    step { s with port := .host w' :: rest } = step { s with port := .host w :: rest }

/-! ### The machine -/

/-- R35, R46: a step takes the next event presented: a word that decodes runs as its instruction, from either agent; and
with nothing presented nothing changes (the model's choice, log entry 2). -/
def Obligations.StepRunsTheCommandPresented : Prop :=
  (∀ (w : Word) (i : Instr) (rest : List PortEvent) (s : State), s.port = .host w :: rest → decode w = .ok i →
    step s = exec i { s with port := rest }) ∧
  (∀ (b : Byte) (rest : List PortEvent) (s : State), s.port = .transport b :: rest →
    step s = exec (.rxPush b) { s with port := rest }) ∧
  (∀ (w : Nat) (i : Instr) (s : State), decodeTableWord 16 w = some i → step (s.withFetchWord 16 w) = exec i s) ∧
  (∀ s : State, s.port = [] → step s = .next s)

/-- R150: the block never stops, hangs or refuses: whatever is presented next in whatever state, the step answers a next
state and takes exactly that event; so a run ends once all that was presented has been taken. (With nothing presented there
is no step of the block; what the model's step does then is in `StepRunsTheCommandPresented`.) -/
def Obligations.EveryStepAnswers : Prop :=
  (∀ (e : PortEvent) (rest : List PortEvent) (s : State), s.port = e :: rest →
    ∃ t : State, step s = .next t ∧ t.port = rest) ∧
  (∀ s : State, ∃ t : State, runFor s.port.length s = .next t ∧ t.port = [])

/-- R60: every command, an illegal one too, answers exactly once, and commands with no result answer 0x00. -/
def Obligations.OneResponsePerCommand : Prop :=
  ∀ s t : State, step s = .next t →
    (∀ i, s.accepted = .command i → ∃ v : Byte, t.responses = s.responses ++ [v] ∧
      (∀ x, i = .nop x ∨ i = .crcInit x ∨ i = .crcUpdate x ∨ i = .rxPush x ∨ i = .rxFlush x ∨ i = .txSetType x ∨
        i = .txPut x ∨ i = .txClear x ∨ i = .txSend x ∨ i = .stClear x → v = 0x00#8)) ∧
    (∀ w, s.accepted = .illegal w → t.responses = s.responses ++ [0x00#8])

/-- R20: only `CRC_INIT`, `CRC_UPDATE` and reset write `CRC`. -/
def Obligations.OnlyCrcCommandsWriteCrc : Prop :=
  ∀ s t : State, step s = .next t →
    (∃ x, s.accepted = .command (.crcInit x) ∧ t.crc = 0x00#8) ∨
    (∃ b, s.accepted = .command (.crcUpdate b) ∧ t.crc = crc8Step s.crc b) ∨
    (∃ o, s.accepted = .reset o ∧ t.crc = 0x00#8) ∨
    t.crc = s.crc ∧ (∀ x, s.accepted ≠ .command (.crcInit x)) ∧ (∀ b, s.accepted ≠ .command (.crcUpdate b)) ∧
      (∀ o, s.accepted ≠ .reset o)

/-- R21, R24: only `CRC_CHECK` and reset write `MATCH`; every `RX_POLL` writes `FV` with whether its result is FRAME, and
besides it only reset does. -/
def Obligations.OnlyCheckAndPollWriteTheResultFlags : Prop :=
  ∀ s t : State, step s = .next t →
    t.matchFlag = (match s.accepted with
      | .command (.crcCheck b) => decide (s.crc = b)
      | .reset _ => false
      | _ => s.matchFlag) ∧
    t.fv = (match s.accepted, decodeBuf s.cfg s.rxbuf with
      | .command (.rxPoll _), .frame _ _ => true
      | .command (.rxPoll _), .needMore _ => false
      | .reset _, _ => false
      | _, _ => s.fv)

/-- R22, R85: `RX_PUSH` appends at the end of `RXBUF` where there is room; `RX_POLL` removes bytes from its head and only
there; `RX_FLUSH` and reset empty it; nothing else touches it. -/
def Obligations.RxbufIsAppendedAtTheEndAndTakenAtTheHead : Prop :=
  ∀ s t : State, step s = .next t →
    match s.accepted with
    | .command (.rxPush b) => t.rxbuf = if s.rxbuf.length < s.cfg.rxCap then s.rxbuf ++ [b] else s.rxbuf
    | .command (.rxPoll _) => ∃ k ≤ s.rxbuf.length, t.rxbuf = s.rxbuf.drop k
    | .command (.rxFlush _) => t.rxbuf = []
    | .reset _ => t.rxbuf = []
    | _ => t.rxbuf = s.rxbuf

/-- R23: only an `RX_POLL` whose result is FRAME writes the frame registers, all five together; they keep their values
across everything else but reset. -/
def Obligations.OnlyAFrameResultWritesTheFrameRegisters : Prop :=
  ∀ s t : State, step s = .next t →
    (∃ x f rest, s.accepted = .command (.rxPoll x) ∧ decodeBuf s.cfg s.rxbuf = .frame f rest ∧ t.frameRegs = f) ∨
    (∃ o, s.accepted = .reset o ∧
      t.frameRegs = { len := 0x00#8, type := 0x00#8, plen := 0x00#8, pay := [], crc := 0x00#8 }) ∨
    t.frameRegs = s.frameRegs ∧ (∀ o, s.accepted ≠ .reset o) ∧
      (∀ x f rest, s.accepted = .command (.rxPoll x) → decodeBuf s.cfg s.rxbuf ≠ .frame f rest)

/-- R25, R26: only `TX_SET_TYPE` and reset write `TX_TYPE`; only `TX_PUT`, `TX_CLEAR` and reset write `TX_PAY`. -/
def Obligations.OnlyStagingCommandsWriteTheStaging : Prop :=
  ∀ s t : State, step s = .next t →
    t.txType = (match s.accepted with
      | .command (.txSetType b) => b
      | .reset _ => 0x00#8
      | _ => s.txType) ∧
    t.txPay = (match s.accepted with
      | .command (.txPut b) => if s.txPay.length < pMax s.cfg then s.txPay ++ [b] else s.txPay
      | .command (.txClear _) => []
      | .reset _ => []
      | _ => s.txPay)

/-- R27: each sticky flag is set by exactly its one condition, stays set, and is cleared only by `ST_CLEAR` with its mask
bit and by reset. -/
def Obligations.StickyFlagsAreSetAndClearedOnlyAsListed : Prop :=
  ∀ s t : State, step s = .next t →
    (t.rxovf = true ↔ (∃ b, s.accepted = .command (.rxPush b) ∧ s.cfg.rxCap ≤ s.rxbuf.length) ∨
      s.rxovf = true ∧ (∀ o, s.accepted ≠ .reset o) ∧ ∀ m, s.accepted = .command (.stClear m) → m.getLsbD 2 = false) ∧
    (t.txovf = true ↔ (∃ b, s.accepted = .command (.txPut b) ∧ pMax s.cfg ≤ s.txPay.length) ∨
      s.txovf = true ∧ (∀ o, s.accepted ≠ .reset o) ∧ ∀ m, s.accepted = .command (.stClear m) → m.getLsbD 3 = false) ∧
    (t.range = true ↔ (∃ i, s.accepted = .command (.rxRdPay i) ∧ s.fPlen.toNat ≤ i.toNat) ∨
      s.range = true ∧ (∀ o, s.accepted ≠ .reset o) ∧ ∀ m, s.accepted = .command (.stClear m) → m.getLsbD 4 = false) ∧
    (t.ill = true ↔ (∃ w, s.accepted = .illegal w) ∨
      s.ill = true ∧ (∀ o, s.accepted ≠ .reset o) ∧ ∀ m, s.accepted = .command (.stClear m) → m.getLsbD 5 = false)

/-- R107, R49: a frame leaves the block only through `TX_SEND`, as `encode(TX_TYPE, TX_PAY)`, after all frames before it. -/
def Obligations.FramesLeaveOnlyThroughSend : Prop :=
  ∀ s t : State, step s = .next t →
    t.txLog = (match s.accepted with
      | .command (.txSend _) => s.txLog ++ [encodeFrame s.cfg s.txType s.txPay]
      | _ => s.txLog)

/-- R10, its "writes" half: no step writes the parameters, so after any number of steps they are as before. That they
stand in the state is the model's choice, log entry 1. -/
def Obligations.ParametersNeverChange : Prop :=
  ∀ (n : Nat) (s t : State), runFor n s = .next t → t.cfg = s.cfg

/-- R37: the reset state, which is also the power-on state (R138), holds the reset value of every field. -/
def Obligations.ResetStateHoldsTheResetValues : Prop :=
  State.reset.crc = 0x00#8 ∧ State.reset.matchFlag = false ∧ State.reset.rxbuf = [] ∧ State.reset.fv = false ∧
  State.reset.fLen = 0x00#8 ∧ State.reset.fType = 0x00#8 ∧ State.reset.fPlen = 0x00#8 ∧ State.reset.fCrc = 0x00#8 ∧
  State.reset.fPay = [] ∧ State.reset.txType = 0x00#8 ∧ State.reset.txPay = [] ∧ State.reset.rxovf = false ∧
  State.reset.txovf = false ∧ State.reset.range = false ∧ State.reset.ill = false ∧ State.reset.st = 0x00#8

/-- R130, R138, R139: asserting `rst` puts the block in its reset state, from every state and whatever command is presented
meanwhile; frames already written stay written. -/
def Obligations.ResetTakesPrecedence : Prop :=
  ∀ (o : Option Word) (rest : List PortEvent) (s : State), s.port = .reset o :: rest →
    ∃ t : State, step s = .next t ∧ t.SameBlock State.reset ∧ t.txLog = s.txLog ∧ t.cfg = s.cfg ∧ t.port = rest

/-- R33: the invariants hold at reset, whatever the parameters. -/
def Obligations.InvariantHoldsAtReset : Prop :=
  State.reset.Inv ∧ ∀ c : Config, (State.resetWith c).Inv

/-- R33: every step keeps the invariants, from every state that has them and whatever is presented. -/
def Obligations.EveryStepKeepsTheInvariant : Prop :=
  ∀ s t : State, s.Inv → step s = .next t → t.Inv

/-- R78: frame traffic neither reads nor writes `CRC` and `MATCH`: a receive or transmit command does the same whatever
they hold, and leaves them as they are. -/
def Obligations.FrameTrafficIgnoresTheCrcRegister : Prop :=
  ∀ (i : Instr) (s t : State) (c : Byte) (m : Bool),
    (0x10 ≤ i.opcode.toNat ∧ i.opcode.toNat ≤ 0x24) → exec i s = .next t →
    t.crc = s.crc ∧ t.matchFlag = s.matchFlag ∧
    exec i { s with crc := c, matchFlag := m } = .next { t with crc := c, matchFlag := m }

/-- R47: an `RX_PUSH` of the transport may fall before or after a host command that does not read or write `RXBUF` or
`RXOVF`: the block ends in the same state, and the command answers the same. -/
def Obligations.PushCommutesWithHostCommands : Prop :=
  ∀ (i : Instr) (b : Byte) (s t u v w : State),
    (∀ x, i ≠ .rxPush x ∧ i ≠ .rxPoll x ∧ i ≠ .rxFlush x ∧ i ≠ .rxCount x ∧ i ≠ .stRead x ∧ i ≠ .stClear x) →
    exec (.rxPush b) s = .next t → exec i t = .next u → exec i s = .next v → exec (.rxPush b) v = .next w →
    u.SameBlock w ∧ u.txLog = w.txLog ∧ u.rdata = v.rdata

/-- R96 through the machine (the source's round trip, R107): a frame sent and looped back by the transport is received as
it was staged. -/
def Obligations.LoopbackDeliversTheSentFrame : Prop :=
  ∀ (t x : Byte) (bytes : List Byte) (rest : List PortEvent) (s : State),
    s.cfg.Legal → bytes.length ≤ pMax s.cfg → s.rxbuf = [] →
    s.port = hostWords (SourceLine.txFrame t bytes).words ++
      transportBytes (encodeFrame s.cfg t bytes) ++ .host (encode (.rxPoll x)) :: rest →
    ∃ u : State, runFor (2 * bytes.length + 8) s = .next u ∧
      u.frameRegs = frameOf s.cfg t bytes ∧ u.fv = true ∧ u.rdata = some 0x01#8 ∧ u.rxbuf = [] ∧ u.port = rest ∧
      u.txLog = s.txLog ++ [encodeFrame s.cfg t bytes] ∧ u.rxovf = s.rxovf ∧ u.txovf = s.txovf

/-! ### The assembler -/

/-- R61, R66, R67: the assembler refuses an operand on a command that ignores it, a missing one on a command that uses it,
and a number above 255 anywhere but in `.word`; a line it accepts carries each operand's own value, never a truncated one;
every line but a `.word`, pseudo-instructions too, emits the words of commands with
0x00 in an ignored operand (a `.word` emits the word it is given, as it stands); and every such command can be written. Which
spellings are numbers, that one space separates the parts of the written lines below, what `.word` accepts, the name given
to a refusal, and the last clause, that a refused line refuses the whole program, are the model's choice, log entry 8. -/
def Obligations.AssemblerRefusesWrongOperands : Prop :=
  -- a line by its name and its operands
  (∀ (row : String × (Byte → Instr)) (operands : List (List Char)), row ∈ mnemonics →
    ((row.2 0x00#8).ignoredOperand.isSome = true → operands ≠ [] →
      assembleNamed row.1.toList operands = .error .unexpectedOperand) ∧
    ((row.2 0x00#8).ignoredOperand = none → assembleNamed row.1.toList [] = .error .missingOperand)) ∧
  (∀ (name : List Char) (operands : List (List Char)) (s : List Char) (n : Nat),
    name ≠ ".word".toList → s ∈ operands → parseNumber s = some n → 255 < n →
    ∃ e, assembleNamed name operands = .error e) ∧
  -- an operand by its characters, and a list of operands
  (∀ (s : List Char) (n : Nat), parseNumber s = some n → 255 < n → parseByte s = .error .operandOutOfRange) ∧
  (∀ (s : List Char) (b : Byte), parseByte s = .ok b → parseNumber s = some b.toNat) ∧
  (∀ (operands : List (List Char)) (bytes : List Byte), parseBytes operands = .ok bytes →
    operands.map parseNumber = bytes.map (fun b => some b.toNat)) ∧
  -- a line as it is written, with one operand and with none
  (∀ (row : String × (Byte → Instr)) (s : List Char) (n : Nat), row ∈ mnemonics → parseNumber s = some n →
    ((row.2 0x00#8).ignoredOperand.isSome = true →
      assembleLine (row.1.toList ++ ' ' :: s) = .error .unexpectedOperand) ∧
    ((row.2 0x00#8).ignoredOperand = none → 255 < n →
      assembleLine (row.1.toList ++ ' ' :: s) = .error .operandOutOfRange) ∧
    ((row.2 0x00#8).ignoredOperand = none → ∀ b : Byte, b.toNat = n →
      assembleLine (row.1.toList ++ ' ' :: s) = .ok (.command (row.2 b)))) ∧
  (∀ row : String × (Byte → Instr), row ∈ mnemonics → (row.2 0x00#8).ignoredOperand = none →
    assembleLine row.1.toList = .error .missingOperand) ∧
  -- what is accepted
  (∀ (line : List Char) (l : SourceLine), assembleLine line = .ok l → (∀ w : Word, l ≠ .rawWord w) →
    l.words = l.commands.map encode ∧ ∀ i ∈ l.commands, i.wellFormed = true) ∧
  (∀ i : Instr, i.wellFormed = true → ∃ line : List Char, assembleLine line = .ok (.command i)) ∧
  (∀ (lines : List (List Char)) (line : List Char) (e : AsmError),
    line ∈ lines → assembleLine line = .error e → ∃ e', assemble lines = .error e')

/-- R69: a word listed as `0xHHLL` is read back by `.word`. That `.word` reads every word, also that of a command, is the
model's choice, log entry 8. -/
def Obligations.ListingsReadBack : Prop :=
  ∀ w : Word, parseWord (listing w) = .ok w
end

