-- ==== Sys2Proof/Laws/Assembler.lean ====
section
/-! SUPPORT. What a number, a mnemonic and a written line are to the assembler (R66): a line of a name, or of a name and one
number, is that name with those operands. -/

namespace Sys2Proof.Machine

open Sys2Proof

/-- A digit separates nothing in a line. -/
theorem digitValue_plain {ch : Char} {d : Nat} (h : digitValue ch = some d) :
    isBlank ch = false ∧ ch ≠ ',' ∧ ch ≠ ';' := by
  refine ⟨?_, ?_, ?_⟩
  · refine Bool.eq_false_iff.2 fun hb => ?_
    rcases (by simpa only [isBlank, Bool.or_eq_true, beq_iff_eq] using hb : ch = ' ' ∨ ch = '\t') with rfl | rfl <;>
      simp [digitValue] at h
  · rintro rfl; simp [digitValue] at h
  · rintro rfl; simp [digitValue] at h

/-- Digits separate nothing in a line. -/
theorem digitsValue_plain {base n : Nat} : ∀ {s : List Char} {acc : Nat}, digitsValue base acc s = some n →
    ∀ ch ∈ s, isBlank ch = false ∧ ch ≠ ',' ∧ ch ≠ ';'
  | [], _, _ => by simp
  | c :: rest, acc, h => by
    unfold digitsValue at h
    split at h
    · next d hd =>
      split at h
      · intro ch hch
        rcases List.mem_cons.1 hch with rfl | hch
        · exact digitValue_plain hd
        · exact digitsValue_plain h ch hch
      · cases h
    · cases h

/-- A number has characters, and none of them separates the parts of a line. -/
theorem parseNumber_plain {s : List Char} {n : Nat} (h : parseNumber s = some n) :
    s ≠ [] ∧ ∀ ch ∈ s, isBlank ch = false ∧ ch ≠ ',' ∧ ch ≠ ';' := by
  unfold parseNumber at h
  split at h
  · next d digits =>
    refine ⟨by simp, fun ch hch => ?_⟩
    rcases List.mem_cons.1 hch with rfl | hch
    · decide
    rcases List.mem_cons.1 hch with rfl | hch
    · decide
    exact digitsValue_plain h ch hch
  · exact ⟨by simp, digitsValue_plain h⟩
  · cases h

/-- White space at neither end: trimming takes nothing. -/
theorem trim_of_ends {s : List Char} (hf : ∀ ch ∈ s.head?, isBlank ch = false)
    (hl : ∀ ch ∈ s.getLast?, isBlank ch = false) : trim s = s := by
  have hd : ∀ t : List Char, (∀ ch ∈ t.head?, isBlank ch = false) → t.dropWhile isBlank = t := by
    intro t ht
    cases t with
    | nil => rfl
    | cons c r => simp [List.dropWhile, ht c (by simp)]
  unfold trim
  rw [hd s hf, hd _ (by simpa [List.head?_reverse] using hl), List.reverse_reverse]

/-- Without a comma there is one operand. -/
theorem splitOperands_plain : ∀ {s : List Char}, (∀ ch ∈ s, ch ≠ ',') → splitOperands s = [s]
  | [], _ => rfl
  | c :: rest, h => by
    have hc : (c == ',') = false := by simpa using h c (by simp)
    simp [splitOperands, hc, splitOperands_plain (s := rest) fun ch hch => h ch (by simp [hch])]

/-- One number behind white space is one operand. -/
theorem operandsOf_number {s : List Char} {n : Nat} (h : parseNumber s = some n) : operandsOf (' ' :: s) = [s] := by
  obtain ⟨hne, hp⟩ := parseNumber_plain h
  have hs : trim s = s := trim_of_ends (fun ch hc => (hp ch (List.mem_of_mem_head? hc)).1)
    (fun ch hc => (hp ch (List.mem_of_getLast? hc)).1)
  have ht : trim (' ' :: s) = s := by
    have : trim (' ' :: s) = trim s := by simp [trim, List.dropWhile, isBlank]
    rw [this, hs]
  have hsp : splitOperands (' ' :: s) = [' ' :: s] := splitOperands_plain (by
    intro ch hch
    rcases List.mem_cons.1 hch with rfl | hch
    · decide
    · exact (hp ch hch).2.1)
  simp [operandsOf, ht, hne, hsp]

/-- A line of a name and one number is that name with that operand. -/
theorem assembleLine_number {name s : List Char} {n : Nat} (hn : name ≠ [])
    (hname : ∀ ch ∈ name, isBlank ch = false ∧ ch ≠ ';') (h : parseNumber s = some n) :
    assembleLine (name ++ ' ' :: s) = assembleNamed name [s] := by
  obtain ⟨hne, hp⟩ := parseNumber_plain h
  have hcode : trim ((name ++ ' ' :: s).takeWhile (· != ';')) = name ++ ' ' :: s := by
    have : (name ++ ' ' :: s).takeWhile (· != ';') = name ++ ' ' :: s := by
      refine List.takeWhile_eq_self_iff.2 fun ch hch => ?_
      rcases List.mem_append.1 hch with hch | hch
      · simpa using (hname ch hch).2
      · rcases List.mem_cons.1 hch with rfl | hch
        · decide
        · simpa using (hp ch hch).2.2
    rw [this]
    refine trim_of_ends (fun ch hc => ?_) (fun ch hc => ?_)
    · rw [List.head?_append_of_ne_nil _ hn] at hc
      exact (hname ch (List.mem_of_mem_head? hc)).1
    · refine (hp ch ?_).1
      rw [List.getLast?_append_of_ne_nil _ (by simp), List.getLast?_cons_of_ne_nil hne] at hc
      exact List.mem_of_getLast? hc
  have htw : (name ++ ' ' :: s).takeWhile (fun ch => !isBlank ch) = name := by
    rw [List.takeWhile_append_of_pos (by simpa using fun ch hch => (hname ch hch).1)]
    simp [isBlank]
  have hdw : (name ++ ' ' :: s).dropWhile (fun ch => !isBlank ch) = ' ' :: s := by
    rw [List.dropWhile_append_of_pos (by simpa using fun ch hch => (hname ch hch).1)]
    simp [isBlank, List.dropWhile]
  unfold assembleLine
  simp only [hcode, htw, hdw, operandsOf_number h]
  simp

/-- A line of a name alone is that name with no operand. -/
theorem assembleLine_name {name : List Char} (hn : name ≠ [])
    (hname : ∀ ch ∈ name, isBlank ch = false ∧ ch ≠ ';') : assembleLine name = assembleNamed name [] := by
  have hcode : trim (name.takeWhile (· != ';')) = name := by
    rw [List.takeWhile_eq_self_iff.2 fun ch hch => by simpa using (hname ch hch).2]
    exact trim_of_ends (fun ch hc => (hname ch (List.mem_of_mem_head? hc)).1)
      (fun ch hc => (hname ch (List.mem_of_getLast? hc)).1)
  have htw : name.takeWhile (fun ch => !isBlank ch) = name :=
    List.takeWhile_eq_self_iff.2 fun ch hch => by simpa using (hname ch hch).1
  have hdw : name.dropWhile (fun ch => !isBlank ch) = [] :=
    List.dropWhile_eq_nil_iff.2 fun ch hch => by simpa using (hname ch hch).1
  unfold assembleLine
  simp only [hcode, htw, hdw]
  simp [hn, operandsOf, trim]

/-- A mnemonic has characters, and none of them separates the parts of a line. -/
theorem mnemonics_plain {row : String × (Byte → Instr)} (h : row ∈ mnemonics) :
    row.1.toList ≠ [] ∧ ∀ ch ∈ row.1.toList, isBlank ch = false ∧ ch ≠ ';' := by
  simp only [mnemonics, List.cons_append, List.nil_append, List.mem_cons, List.not_mem_nil, or_false] at h
  rcases h with rfl | rfl | rfl | rfl | rfl | rfl | rfl | rfl | rfl | rfl | rfl | rfl | rfl | rfl | rfl | rfl | rfl | rfl | rfl | rfl | rfl <;>
    simp [isBlank]

/-- A mnemonic names its own command. -/
theorem assembleNamed_mnemonic {row : String × (Byte → Instr)} (h : row ∈ mnemonics) (operands : List (List Char)) :
    assembleNamed row.1.toList operands = assembleCommand row.2 operands := by
  simp only [mnemonics, List.cons_append, List.nil_append, List.mem_cons, List.not_mem_nil, or_false] at h
  rcases h with rfl | rfl | rfl | rfl | rfl | rfl | rfl | rfl | rfl | rfl | rfl | rfl | rfl | rfl | rfl | rfl | rfl | rfl | rfl | rfl | rfl <;>
    rfl

end Sys2Proof.Machine
end

