-- ==== Sys2Proof/Laws/Codec.lean ====
section
/-! SUPPORT. The codec's pure functions: what one pass of the decoder does in each case of R88, one equation per verdict
for `decodeBuf`, and an induction principle over its passes. Provers cite these instead of unfolding. -/

namespace Sys2Proof.Machine

open Sys2Proof

@[simp] theorem crc8From_nil (c : Byte) : crc8From c [] = c := rfl

@[simp] theorem crc8From_cons (c b : Byte) (s : List Byte) : crc8From c (b :: s) = crc8From (crc8Step c b) s := rfl

/-- The CRC of a concatenation goes on from the CRC of the first part. -/
theorem crc8From_append (c : Byte) (s t : List Byte) : crc8From c (s ++ t) = crc8From (crc8From c s) t := by
  induction s generalizing c with
  | nil => rfl
  | cons b s ih => simp [ih]

theorem crc8_eq_from (s : List Byte) : crc8 s = crc8From 0x00#8 s := rfl

/-- In range, for the decoder, is `LEN_ADJ <= L <= P_MAX + LEN_ADJ` (R58, R91). -/
theorem lengthFailure_eq_false (c : Config) (L : Byte) :
    lengthFailure c L = false ↔ c.lenAdj ≤ L.toNat ∧ L.toNat ≤ pMax c + c.lenAdj := by
  simp [lengthFailure]

@[simp] theorem judge_nil (c : Config) : judge c [] = .wait := rfl

/-- R90: a head byte that is not `SYNC` is dropped. -/
theorem judge_noise (c : Config) (b : Byte) (buf : List Byte) (h : b ≠ c.sync) : judge c (b :: buf) = .discard := by
  simp [judge, byteAt, h]

/-- R93: a lone `SYNC` waits for the length byte. -/
theorem judge_sync_only (c : Config) : judge c [c.sync] = .wait := by
  simp [judge, byteAt]

/-- R91, R92: a length failure is judged as soon as the length byte is there. -/
theorem judge_lengthFailure (c : Config) (L : Byte) (body : List Byte) (h : lengthFailure c L = true) :
    judge c (c.sync :: L :: body) = .discard := by
  simp [judge, byteAt, h]

/-- R93: an incomplete candidate waits. -/
theorem judge_incomplete (c : Config) (L : Byte) (body : List Byte) (h : lengthFailure c L = false)
    (hb : body.length < L.toNat - c.lenAdj + 2) : judge c (c.sync :: L :: body) = .wait := by
  simp [judge, byteAt, h, hb]

/-- R91, R92: a complete candidate is judged by its CRC. -/
theorem judge_complete (c : Config) (L t crc : Byte) (pay more : List Byte) (h : lengthFailure c L = false)
    (hp : pay.length = L.toNat - c.lenAdj) :
    judge c (c.sync :: L :: t :: (pay ++ crc :: more)) =
      if crc8 (t :: pay) = crc then
        .found { len := L, type := t, plen := toByte pay.length, pay := pay, crc := crc } (pay.length + 4)
      else .discard := by
  have e1 : byteAt (c.sync :: L :: t :: (pay ++ crc :: more)) (3 + pay.length) = crc := by
    simp [byteAt, Nat.add_comm 3, List.getD]
  have e2 : slice (c.sync :: L :: t :: (pay ++ crc :: more)) 3 (3 + pay.length) = pay := by
    simp [slice]
  have hlen : ¬ (c.sync :: L :: t :: (pay ++ crc :: more)).length < pay.length + 4 := by
    simp
  have hjudge : judge c (c.sync :: L :: t :: (pay ++ crc :: more)) =
      judgeComplete (c.sync :: L :: t :: (pay ++ crc :: more)) pay.length := by
    have e3 : byteAt (c.sync :: L :: t :: (pay ++ crc :: more)) 1 = L := rfl
    have e0 : byteAt (c.sync :: L :: t :: (pay ++ crc :: more)) 0 = c.sync := rfl
    rw [judge, e0, e3, h, ← hp, if_neg hlen]
    simp
  rw [hjudge, judgeComplete, e1, e2]
  by_cases hc : crc8 (t :: pay) = crc
  · rw [if_pos hc]
    exact if_neg (not_not.mpr hc)
  · rw [if_neg hc]
    exact if_pos hc

/-- Everything a pass can meet: the cases of R88, one of them for every non-empty buffer. -/
theorem judge_cases (c : Config) (b : Byte) (buf : List Byte) :
    (b ≠ c.sync ∧ judge c (b :: buf) = .discard) ∨
    (b = c.sync ∧ buf = [] ∧ judge c (b :: buf) = .wait) ∨
    (∃ L body, b = c.sync ∧ buf = L :: body ∧ lengthFailure c L = true ∧ judge c (b :: buf) = .discard) ∨
    (∃ L body, b = c.sync ∧ buf = L :: body ∧ lengthFailure c L = false ∧
      body.length < L.toNat - c.lenAdj + 2 ∧ judge c (b :: buf) = .wait) ∨
    (∃ L t crc pay more, b = c.sync ∧ buf = L :: t :: (pay ++ crc :: more) ∧ lengthFailure c L = false ∧
      pay.length = L.toNat - c.lenAdj ∧
      ((crc8 (t :: pay) ≠ crc ∧ judge c (b :: buf) = .discard) ∨
       (crc8 (t :: pay) = crc ∧ judge c (b :: buf) =
          .found { len := L, type := t, plen := toByte pay.length, pay := pay, crc := crc } (pay.length + 4)))) := by
  by_cases hb : b = c.sync
  · subst hb
    cases buf with
    | nil => exact .inr (.inl ⟨rfl, rfl, judge_sync_only c⟩)
    | cons L body =>
      cases hL : lengthFailure c L with
      | true => exact .inr (.inr (.inl ⟨L, body, rfl, rfl, hL, judge_lengthFailure c L body hL⟩))
      | false =>
        by_cases hlen : body.length < L.toNat - c.lenAdj + 2
        · exact .inr (.inr (.inr (.inl ⟨L, body, rfl, rfl, hL, hlen, judge_incomplete c L body hL hlen⟩)))
        · obtain ⟨t, tl, rfl⟩ : ∃ t tl, body = t :: tl := by
            cases body with
            | nil => simp at hlen
            | cons t tl => exact ⟨t, tl, rfl⟩
          simp only [List.length_cons] at hlen
          have hdrop : tl.drop (L.toNat - c.lenAdj) ≠ [] := by
            intro hnil
            have := congrArg List.length hnil
            simp at this
            omega
          obtain ⟨crc, more, hmore⟩ := List.exists_cons_of_ne_nil hdrop
          have htl : tl = tl.take (L.toNat - c.lenAdj) ++ crc :: more := by
            rw [← hmore, List.take_append_drop]
          have hp : (tl.take (L.toNat - c.lenAdj)).length = L.toNat - c.lenAdj := by
            simp
            omega
          refine .inr (.inr (.inr (.inr ⟨L, t, crc, tl.take (L.toNat - c.lenAdj), more, rfl, by rw [← htl], hL, hp, ?_⟩)))
          rw [htl, judge_complete c L t crc _ more hL hp]
          rw [← htl]
          by_cases hc : crc8 (t :: tl.take (L.toNat - c.lenAdj)) = crc
          · exact .inr ⟨hc, if_pos hc⟩
          · exact .inl ⟨hc, if_neg hc⟩
  · exact .inl ⟨hb, judge_noise c b buf hb⟩

@[simp] theorem decodeBuf_nil (c : Config) : decodeBuf c [] = .needMore [] := rfl

theorem decodeBuf_of_wait (c : Config) (b : Byte) (buf : List Byte) (h : judge c (b :: buf) = .wait) :
    decodeBuf c (b :: buf) = .needMore (b :: buf) := by
  simp [decodeBuf, h]

theorem decodeBuf_of_discard (c : Config) (b : Byte) (buf : List Byte) (h : judge c (b :: buf) = .discard) :
    decodeBuf c (b :: buf) = decodeBuf c buf := by
  simp [decodeBuf, h]

theorem decodeBuf_of_found (c : Config) (b : Byte) (buf : List Byte) (f : Frame) (n : Nat)
    (h : judge c (b :: buf) = .found f n) : decodeBuf c (b :: buf) = .frame f ((b :: buf).drop n) := by
  simp [decodeBuf, h]

theorem encodeFrame_length (c : Config) (t : Byte) (pay : List Byte) :
    (encodeFrame c t pay).length = pay.length + 4 := by
  simp [encodeFrame]

end Sys2Proof.Machine
end

