-- ==== Sys2Proof/Laws/Encoding.lean ====
section
/-! SUPPORT. The two fields of a command word, and how they sit in it (R53). -/

namespace Sys2Proof

@[simp] theorem opcodeField_formatC (opcode imm8 : Byte) : opcodeField (formatC opcode imm8) = opcode := by
  unfold opcodeField formatC
  ext i hi
  simp [BitVec.getElem_extractLsb']
  simp [hi, show 8 + i < 16 by omega, show i < 16 by omega]

@[simp] theorem imm8Field_formatC (opcode imm8 : Byte) : imm8Field (formatC opcode imm8) = imm8 := by
  unfold imm8Field formatC
  ext i hi
  simp [BitVec.getElem_extractLsb', hi]
  omega

/-- A word is its two fields: no bit of it is left out. -/
theorem formatC_fields (w : Word) : formatC (opcodeField w) (imm8Field w) = w := by
  unfold imm8Field formatC opcodeField
  ext i hi
  by_cases h : i < 8
  · simp [h, BitVec.getLsbD_eq_getElem hi]
  · simp [h, show i - 8 < 8 by omega, show 8 + (i - 8) = i by omega, BitVec.getLsbD_eq_getElem hi]

/-- A word of the opcode table whose row has 16 bits is that word. -/
theorem tableWord_sixteen (w : Nat) (h : w < 65536) : (tableWord 16 w).toNat = w := by
  simp only [tableWord, BitVec.toNat_ofNat]
  omega

end Sys2Proof
end

