-- ==== Sys2Proof/Laws/PerInstr.lean ====
section
/-! SUPPORT. Per-instruction laws. WordFields: the word of an instruction holds its opcode of R59 in bits 15 to 8 and its
operand byte in bits 7 to 0 (R53). -/

/-- The word of the instruction has the instruction's opcode and operand in its two fields. -/
def Sys2Proof.Laws.WordFields.Statement (i : Sys2Proof.Instr) : Prop :=
  Sys2Proof.opcodeField (Sys2Proof.encode i) = i.opcode ∧ Sys2Proof.imm8Field (Sys2Proof.encode i) = i.imm8

theorem Sys2Proof.Laws.WordFields.nop (imm8 : Byte) : Sys2Proof.Laws.WordFields.Statement (.nop imm8) :=
  ⟨Sys2Proof.opcodeField_formatC _ _, Sys2Proof.imm8Field_formatC _ _⟩

theorem Sys2Proof.Laws.WordFields.crcInit (imm8 : Byte) : Sys2Proof.Laws.WordFields.Statement (.crcInit imm8) :=
  ⟨Sys2Proof.opcodeField_formatC _ _, Sys2Proof.imm8Field_formatC _ _⟩

theorem Sys2Proof.Laws.WordFields.crcUpdate (imm8 : Byte) : Sys2Proof.Laws.WordFields.Statement (.crcUpdate imm8) :=
  ⟨Sys2Proof.opcodeField_formatC _ _, Sys2Proof.imm8Field_formatC _ _⟩

theorem Sys2Proof.Laws.WordFields.crcRead (imm8 : Byte) : Sys2Proof.Laws.WordFields.Statement (.crcRead imm8) :=
  ⟨Sys2Proof.opcodeField_formatC _ _, Sys2Proof.imm8Field_formatC _ _⟩

theorem Sys2Proof.Laws.WordFields.crcCheck (imm8 : Byte) : Sys2Proof.Laws.WordFields.Statement (.crcCheck imm8) :=
  ⟨Sys2Proof.opcodeField_formatC _ _, Sys2Proof.imm8Field_formatC _ _⟩

theorem Sys2Proof.Laws.WordFields.rxPush (imm8 : Byte) : Sys2Proof.Laws.WordFields.Statement (.rxPush imm8) :=
  ⟨Sys2Proof.opcodeField_formatC _ _, Sys2Proof.imm8Field_formatC _ _⟩

theorem Sys2Proof.Laws.WordFields.rxPoll (imm8 : Byte) : Sys2Proof.Laws.WordFields.Statement (.rxPoll imm8) :=
  ⟨Sys2Proof.opcodeField_formatC _ _, Sys2Proof.imm8Field_formatC _ _⟩

theorem Sys2Proof.Laws.WordFields.rxFlush (imm8 : Byte) : Sys2Proof.Laws.WordFields.Statement (.rxFlush imm8) :=
  ⟨Sys2Proof.opcodeField_formatC _ _, Sys2Proof.imm8Field_formatC _ _⟩

theorem Sys2Proof.Laws.WordFields.rxCount (imm8 : Byte) : Sys2Proof.Laws.WordFields.Statement (.rxCount imm8) :=
  ⟨Sys2Proof.opcodeField_formatC _ _, Sys2Proof.imm8Field_formatC _ _⟩

theorem Sys2Proof.Laws.WordFields.rxRdLen (imm8 : Byte) : Sys2Proof.Laws.WordFields.Statement (.rxRdLen imm8) :=
  ⟨Sys2Proof.opcodeField_formatC _ _, Sys2Proof.imm8Field_formatC _ _⟩

theorem Sys2Proof.Laws.WordFields.rxRdType (imm8 : Byte) : Sys2Proof.Laws.WordFields.Statement (.rxRdType imm8) :=
  ⟨Sys2Proof.opcodeField_formatC _ _, Sys2Proof.imm8Field_formatC _ _⟩

theorem Sys2Proof.Laws.WordFields.rxRdPlen (imm8 : Byte) : Sys2Proof.Laws.WordFields.Statement (.rxRdPlen imm8) :=
  ⟨Sys2Proof.opcodeField_formatC _ _, Sys2Proof.imm8Field_formatC _ _⟩

theorem Sys2Proof.Laws.WordFields.rxRdPay (imm8 : Byte) : Sys2Proof.Laws.WordFields.Statement (.rxRdPay imm8) :=
  ⟨Sys2Proof.opcodeField_formatC _ _, Sys2Proof.imm8Field_formatC _ _⟩

theorem Sys2Proof.Laws.WordFields.rxRdCrc (imm8 : Byte) : Sys2Proof.Laws.WordFields.Statement (.rxRdCrc imm8) :=
  ⟨Sys2Proof.opcodeField_formatC _ _, Sys2Proof.imm8Field_formatC _ _⟩

theorem Sys2Proof.Laws.WordFields.txSetType (imm8 : Byte) : Sys2Proof.Laws.WordFields.Statement (.txSetType imm8) :=
  ⟨Sys2Proof.opcodeField_formatC _ _, Sys2Proof.imm8Field_formatC _ _⟩

theorem Sys2Proof.Laws.WordFields.txPut (imm8 : Byte) : Sys2Proof.Laws.WordFields.Statement (.txPut imm8) :=
  ⟨Sys2Proof.opcodeField_formatC _ _, Sys2Proof.imm8Field_formatC _ _⟩

theorem Sys2Proof.Laws.WordFields.txClear (imm8 : Byte) : Sys2Proof.Laws.WordFields.Statement (.txClear imm8) :=
  ⟨Sys2Proof.opcodeField_formatC _ _, Sys2Proof.imm8Field_formatC _ _⟩

theorem Sys2Proof.Laws.WordFields.txSend (imm8 : Byte) : Sys2Proof.Laws.WordFields.Statement (.txSend imm8) :=
  ⟨Sys2Proof.opcodeField_formatC _ _, Sys2Proof.imm8Field_formatC _ _⟩

theorem Sys2Proof.Laws.WordFields.txCount (imm8 : Byte) : Sys2Proof.Laws.WordFields.Statement (.txCount imm8) :=
  ⟨Sys2Proof.opcodeField_formatC _ _, Sys2Proof.imm8Field_formatC _ _⟩

theorem Sys2Proof.Laws.WordFields.stRead (imm8 : Byte) : Sys2Proof.Laws.WordFields.Statement (.stRead imm8) :=
  ⟨Sys2Proof.opcodeField_formatC _ _, Sys2Proof.imm8Field_formatC _ _⟩

theorem Sys2Proof.Laws.WordFields.stClear (imm8 : Byte) : Sys2Proof.Laws.WordFields.Statement (.stClear imm8) :=
  ⟨Sys2Proof.opcodeField_formatC _ _, Sys2Proof.imm8Field_formatC _ _⟩
end

