-- ==== Sys2Proof/Laws/State.lean ====
section
/-! SUPPORT. One lemma per field of State and update of Machine/Flags.lean and Machine/Ops.lean, each true by rfl, so that
no proof unfolds a record update. -/

namespace Sys2Proof.Machine

open Sys2Proof

/-! ### State.respond -/

@[simp] theorem State.respond_crc (v : Byte) (s : State) : (s.respond v).crc = s.crc := rfl
@[simp] theorem State.respond_matchFlag (v : Byte) (s : State) : (s.respond v).matchFlag = s.matchFlag := rfl
@[simp] theorem State.respond_rxbuf (v : Byte) (s : State) : (s.respond v).rxbuf = s.rxbuf := rfl
@[simp] theorem State.respond_fv (v : Byte) (s : State) : (s.respond v).fv = s.fv := rfl
@[simp] theorem State.respond_fLen (v : Byte) (s : State) : (s.respond v).fLen = s.fLen := rfl
@[simp] theorem State.respond_fType (v : Byte) (s : State) : (s.respond v).fType = s.fType := rfl
@[simp] theorem State.respond_fPlen (v : Byte) (s : State) : (s.respond v).fPlen = s.fPlen := rfl
@[simp] theorem State.respond_fPay (v : Byte) (s : State) : (s.respond v).fPay = s.fPay := rfl
@[simp] theorem State.respond_fCrc (v : Byte) (s : State) : (s.respond v).fCrc = s.fCrc := rfl
@[simp] theorem State.respond_txType (v : Byte) (s : State) : (s.respond v).txType = s.txType := rfl
@[simp] theorem State.respond_txPay (v : Byte) (s : State) : (s.respond v).txPay = s.txPay := rfl
@[simp] theorem State.respond_rxovf (v : Byte) (s : State) : (s.respond v).rxovf = s.rxovf := rfl
@[simp] theorem State.respond_txovf (v : Byte) (s : State) : (s.respond v).txovf = s.txovf := rfl
@[simp] theorem State.respond_range (v : Byte) (s : State) : (s.respond v).range = s.range := rfl
@[simp] theorem State.respond_ill (v : Byte) (s : State) : (s.respond v).ill = s.ill := rfl
@[simp] theorem State.respond_cfg (v : Byte) (s : State) : (s.respond v).cfg = s.cfg := rfl
@[simp] theorem State.respond_port (v : Byte) (s : State) : (s.respond v).port = s.port := rfl
@[simp] theorem State.respond_responses (v : Byte) (s : State) : (s.respond v).responses = s.responses ++ [v] := rfl
@[simp] theorem State.respond_txLog (v : Byte) (s : State) : (s.respond v).txLog = s.txLog := rfl
@[simp] theorem State.respond_drawn (v : Byte) (s : State) : (s.respond v).drawn = s.drawn := rfl

/-! ### State.setCrc -/

@[simp] theorem State.setCrc_crc (v : Byte) (s : State) : (s.setCrc v).crc = v := rfl
@[simp] theorem State.setCrc_matchFlag (v : Byte) (s : State) : (s.setCrc v).matchFlag = s.matchFlag := rfl
@[simp] theorem State.setCrc_rxbuf (v : Byte) (s : State) : (s.setCrc v).rxbuf = s.rxbuf := rfl
@[simp] theorem State.setCrc_fv (v : Byte) (s : State) : (s.setCrc v).fv = s.fv := rfl
@[simp] theorem State.setCrc_fLen (v : Byte) (s : State) : (s.setCrc v).fLen = s.fLen := rfl
@[simp] theorem State.setCrc_fType (v : Byte) (s : State) : (s.setCrc v).fType = s.fType := rfl
@[simp] theorem State.setCrc_fPlen (v : Byte) (s : State) : (s.setCrc v).fPlen = s.fPlen := rfl
@[simp] theorem State.setCrc_fPay (v : Byte) (s : State) : (s.setCrc v).fPay = s.fPay := rfl
@[simp] theorem State.setCrc_fCrc (v : Byte) (s : State) : (s.setCrc v).fCrc = s.fCrc := rfl
@[simp] theorem State.setCrc_txType (v : Byte) (s : State) : (s.setCrc v).txType = s.txType := rfl
@[simp] theorem State.setCrc_txPay (v : Byte) (s : State) : (s.setCrc v).txPay = s.txPay := rfl
@[simp] theorem State.setCrc_rxovf (v : Byte) (s : State) : (s.setCrc v).rxovf = s.rxovf := rfl
@[simp] theorem State.setCrc_txovf (v : Byte) (s : State) : (s.setCrc v).txovf = s.txovf := rfl
@[simp] theorem State.setCrc_range (v : Byte) (s : State) : (s.setCrc v).range = s.range := rfl
@[simp] theorem State.setCrc_ill (v : Byte) (s : State) : (s.setCrc v).ill = s.ill := rfl
@[simp] theorem State.setCrc_cfg (v : Byte) (s : State) : (s.setCrc v).cfg = s.cfg := rfl
@[simp] theorem State.setCrc_port (v : Byte) (s : State) : (s.setCrc v).port = s.port := rfl
@[simp] theorem State.setCrc_responses (v : Byte) (s : State) : (s.setCrc v).responses = s.responses := rfl
@[simp] theorem State.setCrc_txLog (v : Byte) (s : State) : (s.setCrc v).txLog = s.txLog := rfl
@[simp] theorem State.setCrc_drawn (v : Byte) (s : State) : (s.setCrc v).drawn = s.drawn := rfl

/-! ### State.setMatch -/

@[simp] theorem State.setMatch_crc (m : Bool) (s : State) : (s.setMatch m).crc = s.crc := rfl
@[simp] theorem State.setMatch_matchFlag (m : Bool) (s : State) : (s.setMatch m).matchFlag = m := rfl
@[simp] theorem State.setMatch_rxbuf (m : Bool) (s : State) : (s.setMatch m).rxbuf = s.rxbuf := rfl
@[simp] theorem State.setMatch_fv (m : Bool) (s : State) : (s.setMatch m).fv = s.fv := rfl
@[simp] theorem State.setMatch_fLen (m : Bool) (s : State) : (s.setMatch m).fLen = s.fLen := rfl
@[simp] theorem State.setMatch_fType (m : Bool) (s : State) : (s.setMatch m).fType = s.fType := rfl
@[simp] theorem State.setMatch_fPlen (m : Bool) (s : State) : (s.setMatch m).fPlen = s.fPlen := rfl
@[simp] theorem State.setMatch_fPay (m : Bool) (s : State) : (s.setMatch m).fPay = s.fPay := rfl
@[simp] theorem State.setMatch_fCrc (m : Bool) (s : State) : (s.setMatch m).fCrc = s.fCrc := rfl
@[simp] theorem State.setMatch_txType (m : Bool) (s : State) : (s.setMatch m).txType = s.txType := rfl
@[simp] theorem State.setMatch_txPay (m : Bool) (s : State) : (s.setMatch m).txPay = s.txPay := rfl
@[simp] theorem State.setMatch_rxovf (m : Bool) (s : State) : (s.setMatch m).rxovf = s.rxovf := rfl
@[simp] theorem State.setMatch_txovf (m : Bool) (s : State) : (s.setMatch m).txovf = s.txovf := rfl
@[simp] theorem State.setMatch_range (m : Bool) (s : State) : (s.setMatch m).range = s.range := rfl
@[simp] theorem State.setMatch_ill (m : Bool) (s : State) : (s.setMatch m).ill = s.ill := rfl
@[simp] theorem State.setMatch_cfg (m : Bool) (s : State) : (s.setMatch m).cfg = s.cfg := rfl
@[simp] theorem State.setMatch_port (m : Bool) (s : State) : (s.setMatch m).port = s.port := rfl
@[simp] theorem State.setMatch_responses (m : Bool) (s : State) : (s.setMatch m).responses = s.responses := rfl
@[simp] theorem State.setMatch_txLog (m : Bool) (s : State) : (s.setMatch m).txLog = s.txLog := rfl
@[simp] theorem State.setMatch_drawn (m : Bool) (s : State) : (s.setMatch m).drawn = s.drawn := rfl

/-! ### State.setRxbuf -/

@[simp] theorem State.setRxbuf_crc (buf : List Byte) (s : State) : (s.setRxbuf buf).crc = s.crc := rfl
@[simp] theorem State.setRxbuf_matchFlag (buf : List Byte) (s : State) : (s.setRxbuf buf).matchFlag = s.matchFlag := rfl
@[simp] theorem State.setRxbuf_rxbuf (buf : List Byte) (s : State) : (s.setRxbuf buf).rxbuf = buf := rfl
@[simp] theorem State.setRxbuf_fv (buf : List Byte) (s : State) : (s.setRxbuf buf).fv = s.fv := rfl
@[simp] theorem State.setRxbuf_fLen (buf : List Byte) (s : State) : (s.setRxbuf buf).fLen = s.fLen := rfl
@[simp] theorem State.setRxbuf_fType (buf : List Byte) (s : State) : (s.setRxbuf buf).fType = s.fType := rfl
@[simp] theorem State.setRxbuf_fPlen (buf : List Byte) (s : State) : (s.setRxbuf buf).fPlen = s.fPlen := rfl
@[simp] theorem State.setRxbuf_fPay (buf : List Byte) (s : State) : (s.setRxbuf buf).fPay = s.fPay := rfl
@[simp] theorem State.setRxbuf_fCrc (buf : List Byte) (s : State) : (s.setRxbuf buf).fCrc = s.fCrc := rfl
@[simp] theorem State.setRxbuf_txType (buf : List Byte) (s : State) : (s.setRxbuf buf).txType = s.txType := rfl
@[simp] theorem State.setRxbuf_txPay (buf : List Byte) (s : State) : (s.setRxbuf buf).txPay = s.txPay := rfl
@[simp] theorem State.setRxbuf_rxovf (buf : List Byte) (s : State) : (s.setRxbuf buf).rxovf = s.rxovf := rfl
@[simp] theorem State.setRxbuf_txovf (buf : List Byte) (s : State) : (s.setRxbuf buf).txovf = s.txovf := rfl
@[simp] theorem State.setRxbuf_range (buf : List Byte) (s : State) : (s.setRxbuf buf).range = s.range := rfl
@[simp] theorem State.setRxbuf_ill (buf : List Byte) (s : State) : (s.setRxbuf buf).ill = s.ill := rfl
@[simp] theorem State.setRxbuf_cfg (buf : List Byte) (s : State) : (s.setRxbuf buf).cfg = s.cfg := rfl
@[simp] theorem State.setRxbuf_port (buf : List Byte) (s : State) : (s.setRxbuf buf).port = s.port := rfl
@[simp] theorem State.setRxbuf_responses (buf : List Byte) (s : State) : (s.setRxbuf buf).responses = s.responses := rfl
@[simp] theorem State.setRxbuf_txLog (buf : List Byte) (s : State) : (s.setRxbuf buf).txLog = s.txLog := rfl
@[simp] theorem State.setRxbuf_drawn (buf : List Byte) (s : State) : (s.setRxbuf buf).drawn = s.drawn := rfl

/-! ### State.setFv -/

@[simp] theorem State.setFv_crc (v : Bool) (s : State) : (s.setFv v).crc = s.crc := rfl
@[simp] theorem State.setFv_matchFlag (v : Bool) (s : State) : (s.setFv v).matchFlag = s.matchFlag := rfl
@[simp] theorem State.setFv_rxbuf (v : Bool) (s : State) : (s.setFv v).rxbuf = s.rxbuf := rfl
@[simp] theorem State.setFv_fv (v : Bool) (s : State) : (s.setFv v).fv = v := rfl
@[simp] theorem State.setFv_fLen (v : Bool) (s : State) : (s.setFv v).fLen = s.fLen := rfl
@[simp] theorem State.setFv_fType (v : Bool) (s : State) : (s.setFv v).fType = s.fType := rfl
@[simp] theorem State.setFv_fPlen (v : Bool) (s : State) : (s.setFv v).fPlen = s.fPlen := rfl
@[simp] theorem State.setFv_fPay (v : Bool) (s : State) : (s.setFv v).fPay = s.fPay := rfl
@[simp] theorem State.setFv_fCrc (v : Bool) (s : State) : (s.setFv v).fCrc = s.fCrc := rfl
@[simp] theorem State.setFv_txType (v : Bool) (s : State) : (s.setFv v).txType = s.txType := rfl
@[simp] theorem State.setFv_txPay (v : Bool) (s : State) : (s.setFv v).txPay = s.txPay := rfl
@[simp] theorem State.setFv_rxovf (v : Bool) (s : State) : (s.setFv v).rxovf = s.rxovf := rfl
@[simp] theorem State.setFv_txovf (v : Bool) (s : State) : (s.setFv v).txovf = s.txovf := rfl
@[simp] theorem State.setFv_range (v : Bool) (s : State) : (s.setFv v).range = s.range := rfl
@[simp] theorem State.setFv_ill (v : Bool) (s : State) : (s.setFv v).ill = s.ill := rfl
@[simp] theorem State.setFv_cfg (v : Bool) (s : State) : (s.setFv v).cfg = s.cfg := rfl
@[simp] theorem State.setFv_port (v : Bool) (s : State) : (s.setFv v).port = s.port := rfl
@[simp] theorem State.setFv_responses (v : Bool) (s : State) : (s.setFv v).responses = s.responses := rfl
@[simp] theorem State.setFv_txLog (v : Bool) (s : State) : (s.setFv v).txLog = s.txLog := rfl
@[simp] theorem State.setFv_drawn (v : Bool) (s : State) : (s.setFv v).drawn = s.drawn := rfl

/-! ### State.setFrame -/

@[simp] theorem State.setFrame_crc (f : Frame) (s : State) : (s.setFrame f).crc = s.crc := rfl
@[simp] theorem State.setFrame_matchFlag (f : Frame) (s : State) : (s.setFrame f).matchFlag = s.matchFlag := rfl
@[simp] theorem State.setFrame_rxbuf (f : Frame) (s : State) : (s.setFrame f).rxbuf = s.rxbuf := rfl
@[simp] theorem State.setFrame_fv (f : Frame) (s : State) : (s.setFrame f).fv = s.fv := rfl
@[simp] theorem State.setFrame_fLen (f : Frame) (s : State) : (s.setFrame f).fLen = f.len := rfl
@[simp] theorem State.setFrame_fType (f : Frame) (s : State) : (s.setFrame f).fType = f.type := rfl
@[simp] theorem State.setFrame_fPlen (f : Frame) (s : State) : (s.setFrame f).fPlen = f.plen := rfl
@[simp] theorem State.setFrame_fPay (f : Frame) (s : State) : (s.setFrame f).fPay = f.pay := rfl
@[simp] theorem State.setFrame_fCrc (f : Frame) (s : State) : (s.setFrame f).fCrc = f.crc := rfl
@[simp] theorem State.setFrame_txType (f : Frame) (s : State) : (s.setFrame f).txType = s.txType := rfl
@[simp] theorem State.setFrame_txPay (f : Frame) (s : State) : (s.setFrame f).txPay = s.txPay := rfl
@[simp] theorem State.setFrame_rxovf (f : Frame) (s : State) : (s.setFrame f).rxovf = s.rxovf := rfl
@[simp] theorem State.setFrame_txovf (f : Frame) (s : State) : (s.setFrame f).txovf = s.txovf := rfl
@[simp] theorem State.setFrame_range (f : Frame) (s : State) : (s.setFrame f).range = s.range := rfl
@[simp] theorem State.setFrame_ill (f : Frame) (s : State) : (s.setFrame f).ill = s.ill := rfl
@[simp] theorem State.setFrame_cfg (f : Frame) (s : State) : (s.setFrame f).cfg = s.cfg := rfl
@[simp] theorem State.setFrame_port (f : Frame) (s : State) : (s.setFrame f).port = s.port := rfl
@[simp] theorem State.setFrame_responses (f : Frame) (s : State) : (s.setFrame f).responses = s.responses := rfl
@[simp] theorem State.setFrame_txLog (f : Frame) (s : State) : (s.setFrame f).txLog = s.txLog := rfl
@[simp] theorem State.setFrame_drawn (f : Frame) (s : State) : (s.setFrame f).drawn = s.drawn := rfl

/-! ### State.setTxType -/

@[simp] theorem State.setTxType_crc (t : Byte) (s : State) : (s.setTxType t).crc = s.crc := rfl
@[simp] theorem State.setTxType_matchFlag (t : Byte) (s : State) : (s.setTxType t).matchFlag = s.matchFlag := rfl
@[simp] theorem State.setTxType_rxbuf (t : Byte) (s : State) : (s.setTxType t).rxbuf = s.rxbuf := rfl
@[simp] theorem State.setTxType_fv (t : Byte) (s : State) : (s.setTxType t).fv = s.fv := rfl
@[simp] theorem State.setTxType_fLen (t : Byte) (s : State) : (s.setTxType t).fLen = s.fLen := rfl
@[simp] theorem State.setTxType_fType (t : Byte) (s : State) : (s.setTxType t).fType = s.fType := rfl
@[simp] theorem State.setTxType_fPlen (t : Byte) (s : State) : (s.setTxType t).fPlen = s.fPlen := rfl
@[simp] theorem State.setTxType_fPay (t : Byte) (s : State) : (s.setTxType t).fPay = s.fPay := rfl
@[simp] theorem State.setTxType_fCrc (t : Byte) (s : State) : (s.setTxType t).fCrc = s.fCrc := rfl
@[simp] theorem State.setTxType_txType (t : Byte) (s : State) : (s.setTxType t).txType = t := rfl
@[simp] theorem State.setTxType_txPay (t : Byte) (s : State) : (s.setTxType t).txPay = s.txPay := rfl
@[simp] theorem State.setTxType_rxovf (t : Byte) (s : State) : (s.setTxType t).rxovf = s.rxovf := rfl
@[simp] theorem State.setTxType_txovf (t : Byte) (s : State) : (s.setTxType t).txovf = s.txovf := rfl
@[simp] theorem State.setTxType_range (t : Byte) (s : State) : (s.setTxType t).range = s.range := rfl
@[simp] theorem State.setTxType_ill (t : Byte) (s : State) : (s.setTxType t).ill = s.ill := rfl
@[simp] theorem State.setTxType_cfg (t : Byte) (s : State) : (s.setTxType t).cfg = s.cfg := rfl
@[simp] theorem State.setTxType_port (t : Byte) (s : State) : (s.setTxType t).port = s.port := rfl
@[simp] theorem State.setTxType_responses (t : Byte) (s : State) : (s.setTxType t).responses = s.responses := rfl
@[simp] theorem State.setTxType_txLog (t : Byte) (s : State) : (s.setTxType t).txLog = s.txLog := rfl
@[simp] theorem State.setTxType_drawn (t : Byte) (s : State) : (s.setTxType t).drawn = s.drawn := rfl

/-! ### State.setTxPay -/

@[simp] theorem State.setTxPay_crc (pay : List Byte) (s : State) : (s.setTxPay pay).crc = s.crc := rfl
@[simp] theorem State.setTxPay_matchFlag (pay : List Byte) (s : State) : (s.setTxPay pay).matchFlag = s.matchFlag := rfl
@[simp] theorem State.setTxPay_rxbuf (pay : List Byte) (s : State) : (s.setTxPay pay).rxbuf = s.rxbuf := rfl
@[simp] theorem State.setTxPay_fv (pay : List Byte) (s : State) : (s.setTxPay pay).fv = s.fv := rfl
@[simp] theorem State.setTxPay_fLen (pay : List Byte) (s : State) : (s.setTxPay pay).fLen = s.fLen := rfl
@[simp] theorem State.setTxPay_fType (pay : List Byte) (s : State) : (s.setTxPay pay).fType = s.fType := rfl
@[simp] theorem State.setTxPay_fPlen (pay : List Byte) (s : State) : (s.setTxPay pay).fPlen = s.fPlen := rfl
@[simp] theorem State.setTxPay_fPay (pay : List Byte) (s : State) : (s.setTxPay pay).fPay = s.fPay := rfl
@[simp] theorem State.setTxPay_fCrc (pay : List Byte) (s : State) : (s.setTxPay pay).fCrc = s.fCrc := rfl
@[simp] theorem State.setTxPay_txType (pay : List Byte) (s : State) : (s.setTxPay pay).txType = s.txType := rfl
@[simp] theorem State.setTxPay_txPay (pay : List Byte) (s : State) : (s.setTxPay pay).txPay = pay := rfl
@[simp] theorem State.setTxPay_rxovf (pay : List Byte) (s : State) : (s.setTxPay pay).rxovf = s.rxovf := rfl
@[simp] theorem State.setTxPay_txovf (pay : List Byte) (s : State) : (s.setTxPay pay).txovf = s.txovf := rfl
@[simp] theorem State.setTxPay_range (pay : List Byte) (s : State) : (s.setTxPay pay).range = s.range := rfl
@[simp] theorem State.setTxPay_ill (pay : List Byte) (s : State) : (s.setTxPay pay).ill = s.ill := rfl
@[simp] theorem State.setTxPay_cfg (pay : List Byte) (s : State) : (s.setTxPay pay).cfg = s.cfg := rfl
@[simp] theorem State.setTxPay_port (pay : List Byte) (s : State) : (s.setTxPay pay).port = s.port := rfl
@[simp] theorem State.setTxPay_responses (pay : List Byte) (s : State) : (s.setTxPay pay).responses = s.responses := rfl
@[simp] theorem State.setTxPay_txLog (pay : List Byte) (s : State) : (s.setTxPay pay).txLog = s.txLog := rfl
@[simp] theorem State.setTxPay_drawn (pay : List Byte) (s : State) : (s.setTxPay pay).drawn = s.drawn := rfl

/-! ### State.emitTx -/

@[simp] theorem State.emitTx_crc (bytes : List Byte) (s : State) : (s.emitTx bytes).crc = s.crc := rfl
@[simp] theorem State.emitTx_matchFlag (bytes : List Byte) (s : State) : (s.emitTx bytes).matchFlag = s.matchFlag := rfl
@[simp] theorem State.emitTx_rxbuf (bytes : List Byte) (s : State) : (s.emitTx bytes).rxbuf = s.rxbuf := rfl
@[simp] theorem State.emitTx_fv (bytes : List Byte) (s : State) : (s.emitTx bytes).fv = s.fv := rfl
@[simp] theorem State.emitTx_fLen (bytes : List Byte) (s : State) : (s.emitTx bytes).fLen = s.fLen := rfl
@[simp] theorem State.emitTx_fType (bytes : List Byte) (s : State) : (s.emitTx bytes).fType = s.fType := rfl
@[simp] theorem State.emitTx_fPlen (bytes : List Byte) (s : State) : (s.emitTx bytes).fPlen = s.fPlen := rfl
@[simp] theorem State.emitTx_fPay (bytes : List Byte) (s : State) : (s.emitTx bytes).fPay = s.fPay := rfl
@[simp] theorem State.emitTx_fCrc (bytes : List Byte) (s : State) : (s.emitTx bytes).fCrc = s.fCrc := rfl
@[simp] theorem State.emitTx_txType (bytes : List Byte) (s : State) : (s.emitTx bytes).txType = s.txType := rfl
@[simp] theorem State.emitTx_txPay (bytes : List Byte) (s : State) : (s.emitTx bytes).txPay = s.txPay := rfl
@[simp] theorem State.emitTx_rxovf (bytes : List Byte) (s : State) : (s.emitTx bytes).rxovf = s.rxovf := rfl
@[simp] theorem State.emitTx_txovf (bytes : List Byte) (s : State) : (s.emitTx bytes).txovf = s.txovf := rfl
@[simp] theorem State.emitTx_range (bytes : List Byte) (s : State) : (s.emitTx bytes).range = s.range := rfl
@[simp] theorem State.emitTx_ill (bytes : List Byte) (s : State) : (s.emitTx bytes).ill = s.ill := rfl
@[simp] theorem State.emitTx_cfg (bytes : List Byte) (s : State) : (s.emitTx bytes).cfg = s.cfg := rfl
@[simp] theorem State.emitTx_port (bytes : List Byte) (s : State) : (s.emitTx bytes).port = s.port := rfl
@[simp] theorem State.emitTx_responses (bytes : List Byte) (s : State) : (s.emitTx bytes).responses = s.responses := rfl
@[simp] theorem State.emitTx_txLog (bytes : List Byte) (s : State) : (s.emitTx bytes).txLog = s.txLog ++ [bytes] := rfl
@[simp] theorem State.emitTx_drawn (bytes : List Byte) (s : State) : (s.emitTx bytes).drawn = s.drawn := rfl

/-! ### State.clearSticky -/

@[simp] theorem State.clearSticky_crc (mask : Byte) (s : State) : (s.clearSticky mask).crc = s.crc := rfl
@[simp] theorem State.clearSticky_matchFlag (mask : Byte) (s : State) : (s.clearSticky mask).matchFlag = s.matchFlag := rfl
@[simp] theorem State.clearSticky_rxbuf (mask : Byte) (s : State) : (s.clearSticky mask).rxbuf = s.rxbuf := rfl
@[simp] theorem State.clearSticky_fv (mask : Byte) (s : State) : (s.clearSticky mask).fv = s.fv := rfl
@[simp] theorem State.clearSticky_fLen (mask : Byte) (s : State) : (s.clearSticky mask).fLen = s.fLen := rfl
@[simp] theorem State.clearSticky_fType (mask : Byte) (s : State) : (s.clearSticky mask).fType = s.fType := rfl
@[simp] theorem State.clearSticky_fPlen (mask : Byte) (s : State) : (s.clearSticky mask).fPlen = s.fPlen := rfl
@[simp] theorem State.clearSticky_fPay (mask : Byte) (s : State) : (s.clearSticky mask).fPay = s.fPay := rfl
@[simp] theorem State.clearSticky_fCrc (mask : Byte) (s : State) : (s.clearSticky mask).fCrc = s.fCrc := rfl
@[simp] theorem State.clearSticky_txType (mask : Byte) (s : State) : (s.clearSticky mask).txType = s.txType := rfl
@[simp] theorem State.clearSticky_txPay (mask : Byte) (s : State) : (s.clearSticky mask).txPay = s.txPay := rfl
@[simp] theorem State.clearSticky_rxovf (mask : Byte) (s : State) : (s.clearSticky mask).rxovf = (s.rxovf && !(maskBit mask 2)) := rfl
@[simp] theorem State.clearSticky_txovf (mask : Byte) (s : State) : (s.clearSticky mask).txovf = (s.txovf && !(maskBit mask 3)) := rfl
@[simp] theorem State.clearSticky_range (mask : Byte) (s : State) : (s.clearSticky mask).range = (s.range && !(maskBit mask 4)) := rfl
@[simp] theorem State.clearSticky_ill (mask : Byte) (s : State) : (s.clearSticky mask).ill = (s.ill && !(maskBit mask 5)) := rfl
@[simp] theorem State.clearSticky_cfg (mask : Byte) (s : State) : (s.clearSticky mask).cfg = s.cfg := rfl
@[simp] theorem State.clearSticky_port (mask : Byte) (s : State) : (s.clearSticky mask).port = s.port := rfl
@[simp] theorem State.clearSticky_responses (mask : Byte) (s : State) : (s.clearSticky mask).responses = s.responses := rfl
@[simp] theorem State.clearSticky_txLog (mask : Byte) (s : State) : (s.clearSticky mask).txLog = s.txLog := rfl
@[simp] theorem State.clearSticky_drawn (mask : Byte) (s : State) : (s.clearSticky mask).drawn = s.drawn := rfl

/-! ### State.consume -/

@[simp] theorem State.consume_crc (s : State) : s.consume.crc = s.crc := rfl
@[simp] theorem State.consume_matchFlag (s : State) : s.consume.matchFlag = s.matchFlag := rfl
@[simp] theorem State.consume_rxbuf (s : State) : s.consume.rxbuf = s.rxbuf := rfl
@[simp] theorem State.consume_fv (s : State) : s.consume.fv = s.fv := rfl
@[simp] theorem State.consume_fLen (s : State) : s.consume.fLen = s.fLen := rfl
@[simp] theorem State.consume_fType (s : State) : s.consume.fType = s.fType := rfl
@[simp] theorem State.consume_fPlen (s : State) : s.consume.fPlen = s.fPlen := rfl
@[simp] theorem State.consume_fPay (s : State) : s.consume.fPay = s.fPay := rfl
@[simp] theorem State.consume_fCrc (s : State) : s.consume.fCrc = s.fCrc := rfl
@[simp] theorem State.consume_txType (s : State) : s.consume.txType = s.txType := rfl
@[simp] theorem State.consume_txPay (s : State) : s.consume.txPay = s.txPay := rfl
@[simp] theorem State.consume_rxovf (s : State) : s.consume.rxovf = s.rxovf := rfl
@[simp] theorem State.consume_txovf (s : State) : s.consume.txovf = s.txovf := rfl
@[simp] theorem State.consume_range (s : State) : s.consume.range = s.range := rfl
@[simp] theorem State.consume_ill (s : State) : s.consume.ill = s.ill := rfl
@[simp] theorem State.consume_cfg (s : State) : s.consume.cfg = s.cfg := rfl
@[simp] theorem State.consume_port (s : State) : s.consume.port = s.port.tail := rfl
@[simp] theorem State.consume_responses (s : State) : s.consume.responses = s.responses := rfl
@[simp] theorem State.consume_txLog (s : State) : s.consume.txLog = s.txLog := rfl
@[simp] theorem State.consume_drawn (s : State) : s.consume.drawn = s.drawn := rfl

/-! ### State.present -/

@[simp] theorem State.present_crc (events : List PortEvent) (s : State) : (s.present events).crc = s.crc := rfl
@[simp] theorem State.present_matchFlag (events : List PortEvent) (s : State) : (s.present events).matchFlag = s.matchFlag := rfl
@[simp] theorem State.present_rxbuf (events : List PortEvent) (s : State) : (s.present events).rxbuf = s.rxbuf := rfl
@[simp] theorem State.present_fv (events : List PortEvent) (s : State) : (s.present events).fv = s.fv := rfl
@[simp] theorem State.present_fLen (events : List PortEvent) (s : State) : (s.present events).fLen = s.fLen := rfl
@[simp] theorem State.present_fType (events : List PortEvent) (s : State) : (s.present events).fType = s.fType := rfl
@[simp] theorem State.present_fPlen (events : List PortEvent) (s : State) : (s.present events).fPlen = s.fPlen := rfl
@[simp] theorem State.present_fPay (events : List PortEvent) (s : State) : (s.present events).fPay = s.fPay := rfl
@[simp] theorem State.present_fCrc (events : List PortEvent) (s : State) : (s.present events).fCrc = s.fCrc := rfl
@[simp] theorem State.present_txType (events : List PortEvent) (s : State) : (s.present events).txType = s.txType := rfl
@[simp] theorem State.present_txPay (events : List PortEvent) (s : State) : (s.present events).txPay = s.txPay := rfl
@[simp] theorem State.present_rxovf (events : List PortEvent) (s : State) : (s.present events).rxovf = s.rxovf := rfl
@[simp] theorem State.present_txovf (events : List PortEvent) (s : State) : (s.present events).txovf = s.txovf := rfl
@[simp] theorem State.present_range (events : List PortEvent) (s : State) : (s.present events).range = s.range := rfl
@[simp] theorem State.present_ill (events : List PortEvent) (s : State) : (s.present events).ill = s.ill := rfl
@[simp] theorem State.present_cfg (events : List PortEvent) (s : State) : (s.present events).cfg = s.cfg := rfl
@[simp] theorem State.present_port (events : List PortEvent) (s : State) : (s.present events).port = s.port ++ events := rfl
@[simp] theorem State.present_responses (events : List PortEvent) (s : State) : (s.present events).responses = s.responses := rfl
@[simp] theorem State.present_txLog (events : List PortEvent) (s : State) : (s.present events).txLog = s.txLog := rfl
@[simp] theorem State.present_drawn (events : List PortEvent) (s : State) : (s.present events).drawn = s.drawn := rfl

/-! ### State.presentNext -/

@[simp] theorem State.presentNext_crc (e : PortEvent) (s : State) : (s.presentNext e).crc = s.crc := rfl
@[simp] theorem State.presentNext_matchFlag (e : PortEvent) (s : State) : (s.presentNext e).matchFlag = s.matchFlag := rfl
@[simp] theorem State.presentNext_rxbuf (e : PortEvent) (s : State) : (s.presentNext e).rxbuf = s.rxbuf := rfl
@[simp] theorem State.presentNext_fv (e : PortEvent) (s : State) : (s.presentNext e).fv = s.fv := rfl
@[simp] theorem State.presentNext_fLen (e : PortEvent) (s : State) : (s.presentNext e).fLen = s.fLen := rfl
@[simp] theorem State.presentNext_fType (e : PortEvent) (s : State) : (s.presentNext e).fType = s.fType := rfl
@[simp] theorem State.presentNext_fPlen (e : PortEvent) (s : State) : (s.presentNext e).fPlen = s.fPlen := rfl
@[simp] theorem State.presentNext_fPay (e : PortEvent) (s : State) : (s.presentNext e).fPay = s.fPay := rfl
@[simp] theorem State.presentNext_fCrc (e : PortEvent) (s : State) : (s.presentNext e).fCrc = s.fCrc := rfl
@[simp] theorem State.presentNext_txType (e : PortEvent) (s : State) : (s.presentNext e).txType = s.txType := rfl
@[simp] theorem State.presentNext_txPay (e : PortEvent) (s : State) : (s.presentNext e).txPay = s.txPay := rfl
@[simp] theorem State.presentNext_rxovf (e : PortEvent) (s : State) : (s.presentNext e).rxovf = s.rxovf := rfl
@[simp] theorem State.presentNext_txovf (e : PortEvent) (s : State) : (s.presentNext e).txovf = s.txovf := rfl
@[simp] theorem State.presentNext_range (e : PortEvent) (s : State) : (s.presentNext e).range = s.range := rfl
@[simp] theorem State.presentNext_ill (e : PortEvent) (s : State) : (s.presentNext e).ill = s.ill := rfl
@[simp] theorem State.presentNext_cfg (e : PortEvent) (s : State) : (s.presentNext e).cfg = s.cfg := rfl
@[simp] theorem State.presentNext_port (e : PortEvent) (s : State) : (s.presentNext e).port = e :: s.port := rfl
@[simp] theorem State.presentNext_responses (e : PortEvent) (s : State) : (s.presentNext e).responses = s.responses := rfl
@[simp] theorem State.presentNext_txLog (e : PortEvent) (s : State) : (s.presentNext e).txLog = s.txLog := rfl
@[simp] theorem State.presentNext_drawn (e : PortEvent) (s : State) : (s.presentNext e).drawn = s.drawn := rfl

/-! ### State.respondFree -/

@[simp] theorem State.respondFree_crc (s : State) : s.respondFree.crc = s.crc := rfl
@[simp] theorem State.respondFree_matchFlag (s : State) : s.respondFree.matchFlag = s.matchFlag := rfl
@[simp] theorem State.respondFree_rxbuf (s : State) : s.respondFree.rxbuf = s.rxbuf := rfl
@[simp] theorem State.respondFree_fv (s : State) : s.respondFree.fv = s.fv := rfl
@[simp] theorem State.respondFree_fLen (s : State) : s.respondFree.fLen = s.fLen := rfl
@[simp] theorem State.respondFree_fType (s : State) : s.respondFree.fType = s.fType := rfl
@[simp] theorem State.respondFree_fPlen (s : State) : s.respondFree.fPlen = s.fPlen := rfl
@[simp] theorem State.respondFree_fPay (s : State) : s.respondFree.fPay = s.fPay := rfl
@[simp] theorem State.respondFree_fCrc (s : State) : s.respondFree.fCrc = s.fCrc := rfl
@[simp] theorem State.respondFree_txType (s : State) : s.respondFree.txType = s.txType := rfl
@[simp] theorem State.respondFree_txPay (s : State) : s.respondFree.txPay = s.txPay := rfl
@[simp] theorem State.respondFree_rxovf (s : State) : s.respondFree.rxovf = s.rxovf := rfl
@[simp] theorem State.respondFree_txovf (s : State) : s.respondFree.txovf = s.txovf := rfl
@[simp] theorem State.respondFree_range (s : State) : s.respondFree.range = s.range := rfl
@[simp] theorem State.respondFree_ill (s : State) : s.respondFree.ill = s.ill := rfl
@[simp] theorem State.respondFree_cfg (s : State) : s.respondFree.cfg = s.cfg := rfl
@[simp] theorem State.respondFree_port (s : State) : s.respondFree.port = s.port := rfl
@[simp] theorem State.respondFree_responses (s : State) : s.respondFree.responses = s.responses ++ [Config.freeByte s.drawn] := rfl
@[simp] theorem State.respondFree_txLog (s : State) : s.respondFree.txLog = s.txLog := rfl
@[simp] theorem State.respondFree_drawn (s : State) : s.respondFree.drawn = s.drawn + 1 := rfl

/-! ### State.takeReset -/

@[simp] theorem State.takeReset_crc (s : State) : s.takeReset.crc = 0x00#8 := rfl
@[simp] theorem State.takeReset_matchFlag (s : State) : s.takeReset.matchFlag = false := rfl
@[simp] theorem State.takeReset_rxbuf (s : State) : s.takeReset.rxbuf = [] := rfl
@[simp] theorem State.takeReset_fv (s : State) : s.takeReset.fv = false := rfl
@[simp] theorem State.takeReset_fLen (s : State) : s.takeReset.fLen = 0x00#8 := rfl
@[simp] theorem State.takeReset_fType (s : State) : s.takeReset.fType = 0x00#8 := rfl
@[simp] theorem State.takeReset_fPlen (s : State) : s.takeReset.fPlen = 0x00#8 := rfl
@[simp] theorem State.takeReset_fPay (s : State) : s.takeReset.fPay = [] := rfl
@[simp] theorem State.takeReset_fCrc (s : State) : s.takeReset.fCrc = 0x00#8 := rfl
@[simp] theorem State.takeReset_txType (s : State) : s.takeReset.txType = 0x00#8 := rfl
@[simp] theorem State.takeReset_txPay (s : State) : s.takeReset.txPay = [] := rfl
@[simp] theorem State.takeReset_rxovf (s : State) : s.takeReset.rxovf = false := rfl
@[simp] theorem State.takeReset_txovf (s : State) : s.takeReset.txovf = false := rfl
@[simp] theorem State.takeReset_range (s : State) : s.takeReset.range = false := rfl
@[simp] theorem State.takeReset_ill (s : State) : s.takeReset.ill = false := rfl
@[simp] theorem State.takeReset_cfg (s : State) : s.takeReset.cfg = s.cfg := rfl
@[simp] theorem State.takeReset_port (s : State) : s.takeReset.port = s.port := rfl
@[simp] theorem State.takeReset_responses (s : State) : s.takeReset.responses = s.responses := rfl
@[simp] theorem State.takeReset_txLog (s : State) : s.takeReset.txLog = s.txLog := rfl
@[simp] theorem State.takeReset_drawn (s : State) : s.takeReset.drawn = s.drawn := rfl

/-! ### State.takeIllegal -/

@[simp] theorem State.takeIllegal_crc (s : State) : s.takeIllegal.crc = s.crc := rfl
@[simp] theorem State.takeIllegal_matchFlag (s : State) : s.takeIllegal.matchFlag = s.matchFlag := rfl
@[simp] theorem State.takeIllegal_rxbuf (s : State) : s.takeIllegal.rxbuf = s.rxbuf := rfl
@[simp] theorem State.takeIllegal_fv (s : State) : s.takeIllegal.fv = s.fv := rfl
@[simp] theorem State.takeIllegal_fLen (s : State) : s.takeIllegal.fLen = s.fLen := rfl
@[simp] theorem State.takeIllegal_fType (s : State) : s.takeIllegal.fType = s.fType := rfl
@[simp] theorem State.takeIllegal_fPlen (s : State) : s.takeIllegal.fPlen = s.fPlen := rfl
@[simp] theorem State.takeIllegal_fPay (s : State) : s.takeIllegal.fPay = s.fPay := rfl
@[simp] theorem State.takeIllegal_fCrc (s : State) : s.takeIllegal.fCrc = s.fCrc := rfl
@[simp] theorem State.takeIllegal_txType (s : State) : s.takeIllegal.txType = s.txType := rfl
@[simp] theorem State.takeIllegal_txPay (s : State) : s.takeIllegal.txPay = s.txPay := rfl
@[simp] theorem State.takeIllegal_rxovf (s : State) : s.takeIllegal.rxovf = s.rxovf := rfl
@[simp] theorem State.takeIllegal_txovf (s : State) : s.takeIllegal.txovf = s.txovf := rfl
@[simp] theorem State.takeIllegal_range (s : State) : s.takeIllegal.range = s.range := rfl
@[simp] theorem State.takeIllegal_ill (s : State) : s.takeIllegal.ill = true := rfl
@[simp] theorem State.takeIllegal_cfg (s : State) : s.takeIllegal.cfg = s.cfg := rfl
@[simp] theorem State.takeIllegal_port (s : State) : s.takeIllegal.port = s.port := rfl
@[simp] theorem State.takeIllegal_responses (s : State) : s.takeIllegal.responses = s.responses ++ [0x00#8] := rfl
@[simp] theorem State.takeIllegal_txLog (s : State) : s.takeIllegal.txLog = s.txLog := rfl
@[simp] theorem State.takeIllegal_drawn (s : State) : s.takeIllegal.drawn = s.drawn := rfl

/-! ### State.setSticky -/

@[simp] theorem State.setSticky_crc (e : ErrorCondition) (s : State) : (s.setSticky e).crc = s.crc := by
  cases e <;> rfl
@[simp] theorem State.setSticky_matchFlag (e : ErrorCondition) (s : State) : (s.setSticky e).matchFlag = s.matchFlag := by
  cases e <;> rfl
@[simp] theorem State.setSticky_rxbuf (e : ErrorCondition) (s : State) : (s.setSticky e).rxbuf = s.rxbuf := by
  cases e <;> rfl
@[simp] theorem State.setSticky_fv (e : ErrorCondition) (s : State) : (s.setSticky e).fv = s.fv := by
  cases e <;> rfl
@[simp] theorem State.setSticky_fLen (e : ErrorCondition) (s : State) : (s.setSticky e).fLen = s.fLen := by
  cases e <;> rfl
@[simp] theorem State.setSticky_fType (e : ErrorCondition) (s : State) : (s.setSticky e).fType = s.fType := by
  cases e <;> rfl
@[simp] theorem State.setSticky_fPlen (e : ErrorCondition) (s : State) : (s.setSticky e).fPlen = s.fPlen := by
  cases e <;> rfl
@[simp] theorem State.setSticky_fPay (e : ErrorCondition) (s : State) : (s.setSticky e).fPay = s.fPay := by
  cases e <;> rfl
@[simp] theorem State.setSticky_fCrc (e : ErrorCondition) (s : State) : (s.setSticky e).fCrc = s.fCrc := by
  cases e <;> rfl
@[simp] theorem State.setSticky_txType (e : ErrorCondition) (s : State) : (s.setSticky e).txType = s.txType := by
  cases e <;> rfl
@[simp] theorem State.setSticky_txPay (e : ErrorCondition) (s : State) : (s.setSticky e).txPay = s.txPay := by
  cases e <;> rfl
@[simp] theorem State.setSticky_rxovf_rxovf (s : State) : (s.setSticky .rxovf).rxovf = true := rfl
@[simp] theorem State.setSticky_txovf_rxovf (s : State) : (s.setSticky .txovf).rxovf = s.rxovf := rfl
@[simp] theorem State.setSticky_range_rxovf (s : State) : (s.setSticky .range).rxovf = s.rxovf := rfl
@[simp] theorem State.setSticky_ill_rxovf (s : State) : (s.setSticky .ill).rxovf = s.rxovf := rfl
@[simp] theorem State.setSticky_rxovf_txovf (s : State) : (s.setSticky .rxovf).txovf = s.txovf := rfl
@[simp] theorem State.setSticky_txovf_txovf (s : State) : (s.setSticky .txovf).txovf = true := rfl
@[simp] theorem State.setSticky_range_txovf (s : State) : (s.setSticky .range).txovf = s.txovf := rfl
@[simp] theorem State.setSticky_ill_txovf (s : State) : (s.setSticky .ill).txovf = s.txovf := rfl
@[simp] theorem State.setSticky_rxovf_range (s : State) : (s.setSticky .rxovf).range = s.range := rfl
@[simp] theorem State.setSticky_txovf_range (s : State) : (s.setSticky .txovf).range = s.range := rfl
@[simp] theorem State.setSticky_range_range (s : State) : (s.setSticky .range).range = true := rfl
@[simp] theorem State.setSticky_ill_range (s : State) : (s.setSticky .ill).range = s.range := rfl
@[simp] theorem State.setSticky_rxovf_ill (s : State) : (s.setSticky .rxovf).ill = s.ill := rfl
@[simp] theorem State.setSticky_txovf_ill (s : State) : (s.setSticky .txovf).ill = s.ill := rfl
@[simp] theorem State.setSticky_range_ill (s : State) : (s.setSticky .range).ill = s.ill := rfl
@[simp] theorem State.setSticky_ill_ill (s : State) : (s.setSticky .ill).ill = true := rfl
@[simp] theorem State.setSticky_cfg (e : ErrorCondition) (s : State) : (s.setSticky e).cfg = s.cfg := by
  cases e <;> rfl
@[simp] theorem State.setSticky_port (e : ErrorCondition) (s : State) : (s.setSticky e).port = s.port := by
  cases e <;> rfl
@[simp] theorem State.setSticky_responses (e : ErrorCondition) (s : State) : (s.setSticky e).responses = s.responses := by
  cases e <;> rfl
@[simp] theorem State.setSticky_txLog (e : ErrorCondition) (s : State) : (s.setSticky e).txLog = s.txLog := by
  cases e <;> rfl
@[simp] theorem State.setSticky_drawn (e : ErrorCondition) (s : State) : (s.setSticky e).drawn = s.drawn := by
  cases e <;> rfl

/-! ### State.resetOver -/

@[simp] theorem State.resetOver_crc (o : Option Word) (s : State) : (s.resetOver o).crc = 0x00#8 := by
  cases o <;> rfl
@[simp] theorem State.resetOver_matchFlag (o : Option Word) (s : State) : (s.resetOver o).matchFlag = false := by
  cases o <;> rfl
@[simp] theorem State.resetOver_rxbuf (o : Option Word) (s : State) : (s.resetOver o).rxbuf = [] := by
  cases o <;> rfl
@[simp] theorem State.resetOver_fv (o : Option Word) (s : State) : (s.resetOver o).fv = false := by
  cases o <;> rfl
@[simp] theorem State.resetOver_fLen (o : Option Word) (s : State) : (s.resetOver o).fLen = 0x00#8 := by
  cases o <;> rfl
@[simp] theorem State.resetOver_fType (o : Option Word) (s : State) : (s.resetOver o).fType = 0x00#8 := by
  cases o <;> rfl
@[simp] theorem State.resetOver_fPlen (o : Option Word) (s : State) : (s.resetOver o).fPlen = 0x00#8 := by
  cases o <;> rfl
@[simp] theorem State.resetOver_fPay (o : Option Word) (s : State) : (s.resetOver o).fPay = [] := by
  cases o <;> rfl
@[simp] theorem State.resetOver_fCrc (o : Option Word) (s : State) : (s.resetOver o).fCrc = 0x00#8 := by
  cases o <;> rfl
@[simp] theorem State.resetOver_txType (o : Option Word) (s : State) : (s.resetOver o).txType = 0x00#8 := by
  cases o <;> rfl
@[simp] theorem State.resetOver_txPay (o : Option Word) (s : State) : (s.resetOver o).txPay = [] := by
  cases o <;> rfl
@[simp] theorem State.resetOver_rxovf (o : Option Word) (s : State) : (s.resetOver o).rxovf = false := by
  cases o <;> rfl
@[simp] theorem State.resetOver_txovf (o : Option Word) (s : State) : (s.resetOver o).txovf = false := by
  cases o <;> rfl
@[simp] theorem State.resetOver_range (o : Option Word) (s : State) : (s.resetOver o).range = false := by
  cases o <;> rfl
@[simp] theorem State.resetOver_ill (o : Option Word) (s : State) : (s.resetOver o).ill = false := by
  cases o <;> rfl
@[simp] theorem State.resetOver_cfg (o : Option Word) (s : State) : (s.resetOver o).cfg = s.cfg := by
  cases o <;> rfl
@[simp] theorem State.resetOver_port (o : Option Word) (s : State) : (s.resetOver o).port = s.port := by
  cases o <;> rfl
@[simp] theorem State.resetOver_txLog (o : Option Word) (s : State) : (s.resetOver o).txLog = s.txLog := by
  cases o <;> rfl

/-- A reset that overlaps no command gives no response. -/
@[simp] theorem State.resetOver_none_responses (s : State) : (s.resetOver none).responses = s.responses := rfl

/-- A command that overlaps a reset gives one response, a free value. -/
@[simp] theorem State.resetOver_some_responses (w : Word) (s : State) :
    (s.resetOver (some w)).responses = s.responses ++ [Config.freeByte s.drawn] := rfl

/-- The status byte depends on the six flags only. -/
theorem State.st_congr {s t : State} (hill : s.ill = t.ill) (hrange : s.range = t.range) (htx : s.txovf = t.txovf)
    (hrx : s.rxovf = t.rxovf) (hm : s.matchFlag = t.matchFlag) (hfv : s.fv = t.fv) : s.st = t.st := by
  simp [State.st, hill, hrange, htx, hrx, hm, hfv]

end Sys2Proof.Machine
end

