-- ==== Sys2Proof/Laws/Step.lean ====
section
/-! SUPPORT. What a step accepts, one equation per kind of event, and how runs unfold. -/

namespace Sys2Proof.Machine

open Sys2Proof

theorem acceptWord_of_ok {w : Word} {i : Instr} (h : decode w = .ok i) : acceptWord w = .command i := by
  simp [acceptWord, h]

theorem acceptWord_of_error {w : Word} {e : DecodeError} (h : decode w = .error e) : acceptWord w = .illegal w := by
  simp [acceptWord, h]

/-- The transport's word is `RX_PUSH` of its byte (R35, R86). -/
@[simp] theorem decode_pushWord (b : Byte) : decode (pushWord b) = .ok (.rxPush b) := by
  simp [decode, pushWord]

@[simp] theorem acceptEvent_transport (b : Byte) : acceptEvent (.transport b) = .command (.rxPush b) :=
  acceptWord_of_ok (decode_pushWord b)

@[simp] theorem acceptEvent_host (w : Word) : acceptEvent (.host w) = acceptWord w := rfl

@[simp] theorem acceptEvent_reset (o : Option Word) : acceptEvent (.reset o) = .reset o := rfl

theorem State.accepted_nil {s : State} (h : s.port = []) : s.accepted = .nothing := by
  simp [State.accepted, h]

theorem State.accepted_cons {s : State} {e : PortEvent} {rest : List PortEvent} (h : s.port = e :: rest) :
    s.accepted = acceptEvent e := by
  simp [State.accepted, h]

theorem step_nothing {s : State} (h : s.accepted = .nothing) : step s = .next s := by
  simp [step, h]

theorem step_reset {s : State} {o : Option Word} (h : s.accepted = .reset o) :
    step s = .next (s.consume.resetOver o) := by
  simp [step, h]

theorem step_illegal {s : State} {w : Word} (h : s.accepted = .illegal w) : step s = .next s.consume.takeIllegal := by
  simp [step, h]

theorem step_command {s : State} {i : Instr} (h : s.accepted = .command i) : step s = exec i s.consume := by
  simp [step, h]

/-- Everything a step can be: a step that answers a next state is one of these four. -/
theorem step_cases {s t : State} (h : step s = .next t) :
    (s.accepted = .nothing ∧ t = s) ∨
    (∃ o, s.accepted = .reset o ∧ t = s.consume.resetOver o) ∨
    (∃ w, s.accepted = .illegal w ∧ t = s.consume.takeIllegal) ∨
    (∃ i, s.accepted = .command i ∧ exec i s.consume = .next t) := by
  cases ha : s.accepted with
  | nothing =>
    rw [step_nothing ha] at h
    exact .inl ⟨rfl, by injection h with h; exact h.symm⟩
  | reset o =>
    rw [step_reset ha] at h
    exact .inr (.inl ⟨o, rfl, by injection h with h; exact h.symm⟩)
  | illegal w =>
    rw [step_illegal ha] at h
    exact .inr (.inr (.inl ⟨w, rfl, by injection h with h; exact h.symm⟩))
  | command i =>
    rw [step_command ha] at h
    exact .inr (.inr (.inr ⟨i, rfl, h⟩))

@[simp] theorem runFor_zero (s : State) : runFor 0 s = .next s := rfl

theorem runFor_succ (n : Nat) (s : State) :
    runFor (n + 1) s =
      match step s with
      | .next t => runFor n t
      | .fault r => .fault r
      | .refused r => .refused r := by
  cases h : step s <;> simp [runFor, Host.Core.run, Sys2Proof.core, h]

theorem runFor_succ_of_next {n : Nat} {s t : State} (h : step s = .next t) : runFor (n + 1) s = runFor n t := by
  rw [runFor_succ, h]

theorem collect_succ_of_next {α : Type} (f : State → List α) {n : Nat} {s t : State} (h : step s = .next t) :
    collect f (n + 1) s = f s ++ collect f n t := by
  simp [collect, h]

theorem always_succ_of_next (p : State → Bool) {n : Nat} {s t : State} (h : step s = .next t) :
    always p (n + 1) s = (p s && always p n t) := by
  simp [always, h]

end Sys2Proof.Machine
end

