-- ==== Sys2Proof/Tests/Slice0.lean ====
section
/-! SUPPORT. Tests. Every expected value comes from spec/: the opcode table, the worked examples of the rules and the vectors
of spec/95_test_vectors.md, whose number stands beside each. -/

set_option maxRecDepth 100000

namespace Sys2Proof.Tests

open Sys2Proof Sys2Proof.Machine

/-- The next state of an outcome, if it is one. -/
def next? (o : Host.Outcome State Fault Refusal) : Option State :=
  match o with
  | .next t => some t
  | .fault _ => none
  | .refused _ => none

/-- One command word presented by the host to `s`, and a view of the state after that step. -/
def afterWord {α : Type} (view : State → α) (w : Word) (s : State) : Option α :=
  (next? (step (s.presentNext (.host w)))).map view

/-- The parameters of the vectors marked `LEN_ADJ = 2`. -/
def specTwo : Config := { Config.spec with lenAdj := 2 }

/-- The state after the poll of RX-4. -/
def polled : State :=
  { State.reset with fv := true, fLen := 0x03#8, fType := 0x2A#8, fPlen := 0x02#8, fPay := [0x01#8, 0x02#8], fCrc := 0x73#8 }

/-- A staged frame of type 2A with payload `[01 02]` (TX-C5). -/
def staged : State := { State.reset with txType := 0x2A#8, txPay := [0x01#8, 0x02#8] }

/-! ### Decoding: the words of spec/opcode_table.json, bit by bit -/

theorem test_decode_control_words :
    decode 0b0000000000000000#16 = .ok (.nop 0x00#8) ∧
    decode 0b0011000000000000#16 = .ok (.stRead 0x00#8) ∧
    decode 0b0011000100000100#16 = .ok (.stClear 0x04#8) := by decide

theorem test_decode_crc_words :
    decode 0b0000000100000000#16 = .ok (.crcInit 0x00#8) ∧
    decode 0b0000001000110001#16 = .ok (.crcUpdate 0x31#8) ∧
    decode 0b0000001111111111#16 = .ok (.crcRead 0xFF#8) ∧
    decode 0b0000010010111100#16 = .ok (.crcCheck 0xBC#8) := by decide

theorem test_decode_rx_words :
    decode 0b0001000010111111#16 = .ok (.rxPush 0xBF#8) ∧
    decode 0b0001000111111111#16 = .ok (.rxPoll 0xFF#8) ∧
    decode 0b0001001000000000#16 = .ok (.rxFlush 0x00#8) ∧
    decode 0b0001001100000000#16 = .ok (.rxCount 0x00#8) ∧
    decode 0b0001010000000000#16 = .ok (.rxRdLen 0x00#8) := by decide

theorem test_decode_frame_read_words :
    decode 0b0001010100000000#16 = .ok (.rxRdType 0x00#8) ∧
    decode 0b0001011000000000#16 = .ok (.rxRdPlen 0x00#8) ∧
    decode 0b0001011100000011#16 = .ok (.rxRdPay 0x03#8) ∧
    decode 0b0001100000000000#16 = .ok (.rxRdCrc 0x00#8) := by decide

theorem test_decode_tx_words :
    decode 0b0010000000010110#16 = .ok (.txSetType 0x16#8) ∧
    decode 0b0010000110101010#16 = .ok (.txPut 0xAA#8) ∧
    decode 0b0010001000000000#16 = .ok (.txClear 0x00#8) ∧
    decode 0b0010001100000000#16 = .ok (.txSend 0x00#8) ∧
    decode 0b0010010000000000#16 = .ok (.txCount 0x00#8) := by decide

/-- The first and last opcodes of every illegal range of R62. -/
theorem test_decode_illegal_words :
    [0x0500#16, 0x0FFF#16, 0x1900#16, 0x1F00#16, 0x2500#16, 0x2F00#16, 0x3200#16, 0xFFFF#16].map decode =
      [0x0500#16, 0x0FFF#16, 0x1900#16, 0x1F00#16, 0x2500#16, 0x2F00#16, 0x3200#16, 0xFFFF#16].map
        (fun w => .error (.illegalWord w)) := by decide

/-- Listings of R69 and programs P1, P2: `CRC_UPDATE 0x31` is 0x0231, `RX_PUSH 0xBF` is 0x10BF. -/
theorem test_encode_listed_words :
    encode (.crcUpdate 0x31#8) = 0x0231#16 ∧ encode (.rxPush 0xBF#8) = 0x10BF#16 ∧ encode (.stClear 0x3C#8) = 0x313C#16 := by
  decide

theorem test_table_word_reaches_the_decoder :
    decodeTableWord 16 0x2300 = some (.txSend 0x00#8) ∧ decodeTableWord 16 0x4000 = none ∧
    decodeTableWord 8 0xFF31 = some (.nop 0x31#8) := by decide

/-! ### Well-formedness: an ill-formed term for each check -/

/-- A non-zero ignored operand, for each command that ignores its operand (R59, R61). -/
theorem test_wellformed_refuses_nonzero_ignored_operand :
    (([.nop 1, .crcInit 1, .crcRead 1, .rxPoll 1, .rxFlush 1, .rxCount 1, .rxRdLen 1] : List Instr) ++
     ([.rxRdType 1, .rxRdPlen 1, .rxRdCrc 1, .txClear 1, .txSend 1, .txCount 1, .stRead 1] : List Instr)).map Instr.wellFormed =
      List.replicate 14 false := by decide

theorem test_wellformed_accepts_used_operands :
    [Instr.crcUpdate 0xFF, .crcCheck 0xFF, .rxPush 0xFF, .rxRdPay 0xFF, .txSetType 0xFF, .txPut 0xFF, .stClear 0xFF,
      .nop 0].map Instr.wellFormed = List.replicate 8 true := by decide

/-- R7 to R9: each range, just outside and at its bounds. -/
theorem test_legal_config_ranges :
    Config.spec.Legal ∧ ¬ { Config.spec with lenAdj := 0 }.Legal ∧ ¬ { Config.spec with lenAdj := 3 }.Legal ∧
    ¬ { Config.spec with maxFrame := 25 }.Legal ∧ ¬ { Config.spec with maxFrame := 256, rxCap := 256 }.Legal ∧
    ¬ { Config.spec with rxCap := 63 }.Legal ∧ ¬ { Config.spec with rxCap := 256 }.Legal ∧
    { Config.spec with lenAdj := 2, maxFrame := 26, rxCap := 255 }.Legal := by decide

/-! ### The CRC (sections 2 and 3.1) -/

/-- The whole table of section 2. -/
theorem test_crc_table :
    (List.range 256).map (fun i => crc8Step 0x00#8 (BitVec.ofNat 8 i)) =
  [0x00, 0xD5, 0x7F, 0xAA, 0xFE, 0x2B, 0x81, 0x54, 0x29, 0xFC, 0x56, 0x83, 0xD7, 0x02, 0xA8, 0x7D] ++
  [0x52, 0x87, 0x2D, 0xF8, 0xAC, 0x79, 0xD3, 0x06, 0x7B, 0xAE, 0x04, 0xD1, 0x85, 0x50, 0xFA, 0x2F] ++
  [0xA4, 0x71, 0xDB, 0x0E, 0x5A, 0x8F, 0x25, 0xF0, 0x8D, 0x58, 0xF2, 0x27, 0x73, 0xA6, 0x0C, 0xD9] ++
  [0xF6, 0x23, 0x89, 0x5C, 0x08, 0xDD, 0x77, 0xA2, 0xDF, 0x0A, 0xA0, 0x75, 0x21, 0xF4, 0x5E, 0x8B] ++
  [0x9D, 0x48, 0xE2, 0x37, 0x63, 0xB6, 0x1C, 0xC9, 0xB4, 0x61, 0xCB, 0x1E, 0x4A, 0x9F, 0x35, 0xE0] ++
  [0xCF, 0x1A, 0xB0, 0x65, 0x31, 0xE4, 0x4E, 0x9B, 0xE6, 0x33, 0x99, 0x4C, 0x18, 0xCD, 0x67, 0xB2] ++
  [0x39, 0xEC, 0x46, 0x93, 0xC7, 0x12, 0xB8, 0x6D, 0x10, 0xC5, 0x6F, 0xBA, 0xEE, 0x3B, 0x91, 0x44] ++
  [0x6B, 0xBE, 0x14, 0xC1, 0x95, 0x40, 0xEA, 0x3F, 0x42, 0x97, 0x3D, 0xE8, 0xBC, 0x69, 0xC3, 0x16] ++
  [0xEF, 0x3A, 0x90, 0x45, 0x11, 0xC4, 0x6E, 0xBB, 0xC6, 0x13, 0xB9, 0x6C, 0x38, 0xED, 0x47, 0x92] ++
  [0xBD, 0x68, 0xC2, 0x17, 0x43, 0x96, 0x3C, 0xE9, 0x94, 0x41, 0xEB, 0x3E, 0x6A, 0xBF, 0x15, 0xC0] ++
  [0x4B, 0x9E, 0x34, 0xE1, 0xB5, 0x60, 0xCA, 0x1F, 0x62, 0xB7, 0x1D, 0xC8, 0x9C, 0x49, 0xE3, 0x36] ++
  [0x19, 0xCC, 0x66, 0xB3, 0xE7, 0x32, 0x98, 0x4D, 0x30, 0xE5, 0x4F, 0x9A, 0xCE, 0x1B, 0xB1, 0x64] ++
  [0x72, 0xA7, 0x0D, 0xD8, 0x8C, 0x59, 0xF3, 0x26, 0x5B, 0x8E, 0x24, 0xF1, 0xA5, 0x70, 0xDA, 0x0F] ++
  [0x20, 0xF5, 0x5F, 0x8A, 0xDE, 0x0B, 0xA1, 0x74, 0x09, 0xDC, 0x76, 0xA3, 0xF7, 0x22, 0x88, 0x5D] ++
  [0xD6, 0x03, 0xA9, 0x7C, 0x28, 0xFD, 0x57, 0x82, 0xFF, 0x2A, 0x80, 0x55, 0x01, 0xD4, 0x7E, 0xAB] ++
  [0x84, 0x51, 0xFB, 0x2E, 0x7A, 0xAF, 0x05, 0xD0, 0xAD, 0x78, 0xD2, 0x07, 0x53, 0x86, 0x2C, 0xF9] := by decide

/-- CRC-1, CRC-5, CRC-8, CRC-11, CRC-12, CRC-21. -/
theorem test_crc8_vectors :
    [[], [0xFF], [0x01, 0x02, 0x03], [0x2A, 0x01, 0x02], [0x2A, 0x01, 0x02, 0x73], [0xC8, 0xC8]].map crc8 =
      [0x00#8, 0xF9#8, 0x3F#8, 0x73#8, 0x00#8, 0x17#8] := by decide

/-- CRC-17 (the catalogue check value) and CRC-18. -/
theorem test_crc8_check_value :
    crc8 [0x31, 0x32, 0x33, 0x34, 0x35, 0x36, 0x37, 0x38, 0x39] = 0xBC#8 ∧
    crc8 [0x30, 0x32, 0x33, 0x34, 0x35, 0x36, 0x37, 0x38, 0x39] = 0x8B#8 := by decide

/-- CRC-C1. -/
theorem test_crcInit : afterWord (fun t => (t.crc, t.rdata)) 0x0100#16 { State.reset with crc := 0x3F#8 } =
    some (0x00#8, some 0x00#8) := by decide

/-- CRC-C2, CRC-C3. -/
theorem test_crcUpdate :
    afterWord (fun t => (t.crc, t.rdata)) 0x0201#16 State.reset = some (0xD5#8, some 0x00#8) ∧
    afterWord (fun t => (t.crc, t.rdata)) 0x025B#16 { State.reset with crc := 0x5B#8 } = some (0x00#8, some 0x00#8) := by
  decide

/-- CRC-C7, CRC-C8. -/
theorem test_crcRead :
    afterWord (fun t => (t.crc, t.rdata)) 0x0300#16 { State.reset with crc := 0x73#8 } = some (0x73#8, some 0x73#8) ∧
    afterWord (fun t => (t.crc, t.rdata)) 0x03FF#16 { State.reset with crc := 0x73#8 } = some (0x73#8, some 0x73#8) := by
  decide

/-- CRC-C4, CRC-C5. -/
theorem test_crcCheck :
    afterWord (fun t => (t.crc, t.st, t.rdata)) 0x04BC#16 { State.reset with crc := 0xBC#8 } =
      some (0xBC#8, 0x02#8, some 0x01#8) ∧
    afterWord (fun t => (t.crc, t.st, t.rdata)) 0x04BD#16 { State.reset with crc := 0xBC#8, matchFlag := true } =
      some (0xBC#8, 0x00#8, some 0x00#8) := by decide

/-! ### Receive and decode (section 3.2) -/

/-- RX-1, RX-2, RX-3, RX-7, RX-10. -/
theorem test_decoder_waits :
    [[], [0xC8], [0xC8, 0x03, 0x2A], [0x00, 0xFF], [0xC8, 0x3D, 0x2A]].map (decodeBuf Config.spec) =
      [.needMore [], .needMore [0xC8], .needMore [0xC8, 0x03, 0x2A], .needMore [], .needMore [0xC8, 0x3D, 0x2A]] := by decide

/-- RX-4, RX-5, RX-6, RX-17. -/
theorem test_decoder_yields :
    [[0xC8, 0x03, 0x2A, 0x01, 0x02, 0x73], [0xC8, 0x01, 0x2A, 0xF2], [0x00, 0xFF, 0xC8, 0x01, 0x2A, 0xF2],
      [0xC8, 0x02, 0xC8, 0xC8, 0x17]].map (decodeBuf Config.spec) =
      [.frame ⟨0x03, 0x2A, 0x02, [0x01, 0x02], 0x73⟩ [], .frame ⟨0x01, 0x2A, 0x00, [], 0xF2⟩ [],
        .frame ⟨0x01, 0x2A, 0x00, [], 0xF2⟩ [], .frame ⟨0x02, 0xC8, 0x01, [0xC8], 0x17⟩ []] := by decide

/-- RX-8, RX-9, RX-11, RX-15. -/
theorem test_decoder_fails_candidates :
    [[0xC8, 0x00, 0x2A, 0xF2], [0xC8, 0x3E, 0x2A], [0xC8, 0x03, 0x2A, 0x01, 0x02, 0x74],
      [0xC8, 0xC8, 0x01, 0x2A, 0xF2]].map (decodeBuf Config.spec) =
      [.needMore [], .needMore [], .needMore [], .frame ⟨0x01, 0x2A, 0x00, [], 0xF2⟩ []] := by decide

/-- RX-12, RX-13, RX-14, RX-16. -/
theorem test_decoder_false_syncs :
    [[0xC8, 0x02, 0xC8, 0x01, 0x2A, 0xF2], [0xC8, 0x05, 0xC8, 0x01, 0x2A, 0xF2],
      [0xC8, 0x05, 0xC8, 0x01, 0x2A, 0xF2, 0x00, 0x00],
      [0xC8, 0x01, 0x2A, 0xF2, 0xC8, 0x03, 0x2A, 0x01, 0x02, 0x73]].map (decodeBuf Config.spec) =
      [.frame ⟨0x01, 0x2A, 0x00, [], 0xF2⟩ [], .needMore [0xC8, 0x05, 0xC8, 0x01, 0x2A, 0xF2],
        .frame ⟨0x01, 0x2A, 0x00, [], 0xF2⟩ [0x00, 0x00],
        .frame ⟨0x01, 0x2A, 0x00, [], 0xF2⟩ [0xC8, 0x03, 0x2A, 0x01, 0x02, 0x73]] := by decide

/-- RX-18 and TX-7: the largest frame, both ways. -/
theorem test_largest_frame :
    let pay := (List.range 60).map (BitVec.ofNat 8)
    encodeFrame Config.spec 0x55 pay = [0xC8, 0x3D, 0x55] ++ pay ++ [0xE7] ∧
    decodeBuf Config.spec ([0xC8, 0x3D, 0x55] ++ pay ++ [0xE7]) = .frame ⟨0x3D, 0x55, 60, pay, 0xE7⟩ [] := by decide

/-- RX-19 to RX-22. -/
theorem test_decoder_len_adj_two :
    [[0xC8, 0x04, 0x2A, 0x01, 0x02, 0x73], [0xC8, 0x02, 0x2A, 0xF2], [0xC8, 0x01, 0x2A, 0xF2],
      [0xC8, 0x03, 0x2A, 0x01, 0x02, 0x73]].map (decodeBuf specTwo) =
      [.frame ⟨0x04, 0x2A, 0x02, [0x01, 0x02], 0x73⟩ [], .frame ⟨0x02, 0x2A, 0x00, [], 0xF2⟩ [], .needMore [],
        .needMore []] := by decide

/-- Section 4: with `SYNC = 05` a corrupt sync byte makes the decoder wait, and a third frame resolves it. -/
theorem test_small_sync_counterexample :
    let c : Config := { Config.spec with sync := 0x05 }
    let stream : List Byte := [0x05, 0x03, 0x2A, 0x01, 0x02, 0x73, 0x05, 0x05, 0x01, 0x2A, 0xF2]
    drain c stream = ([⟨0x03, 0x2A, 0x02, [0x01, 0x02], 0x73⟩], [0x05, 0x05, 0x01, 0x2A, 0xF2]) ∧
    (drain c (stream ++ [0x05, 0x01, 0x2A, 0xF2])).2 = [] ∧
    (drain c (stream ++ [0x05, 0x01, 0x2A, 0xF2])).1.length = 3 := by decide

/-- RX-C1, RX-C2. -/
theorem test_rxPush :
    afterWord (fun t => (t.rxbuf, t.st, t.rdata)) 0x1003#16 { State.reset with rxbuf := [0xC8#8] } =
      some ([0xC8#8, 0x03#8], 0x00#8, some 0x00#8) ∧
    afterWord (fun t => (t.rxbuf, t.st, t.rdata)) 0x1055#16 { State.reset with rxbuf := List.replicate 64 0x00#8 } =
      some (List.replicate 64 0x00#8, 0x04#8, some 0x00#8) := by decide

/-- The example of R89; RX-C5. -/
theorem test_rxPoll :
    afterWord (fun t => (t.rxbuf, t.frameRegs, t.st, t.rdata)) 0x1100#16
        { State.reset with rxbuf := [0xC8#8, 0x03#8, 0x2A#8, 0x01#8, 0x02#8, 0x73#8] } =
      some ([], ⟨0x03, 0x2A, 0x02, [0x01, 0x02], 0x73⟩, 0x01#8, some 0x01#8) ∧
    afterWord (fun t => (t.rxbuf, t.frameRegs, t.st, t.rdata)) 0x1100#16 polled =
      some ([], ⟨0x03, 0x2A, 0x02, [0x01, 0x02], 0x73⟩, 0x00#8, some 0x00#8) := by decide

/-- RX-C8. -/
theorem test_rxFlush : afterWord (fun t => (t.rxbuf, t.fType, t.st, t.rdata)) 0x1200#16
    { polled with rxbuf := [0xC8#8, 0x05#8, 0x2A#8], rxovf := true } = some ([], 0x2A#8, 0x05#8, some 0x00#8) := by decide

/-- The example of R98. -/
theorem test_rxCount : afterWord (fun t => (t.rxbuf, t.rdata)) 0x1300#16 { State.reset with rxbuf := [0x00#8, 0xC8#8] } =
    some ([0x00#8, 0xC8#8], some 0x02#8) := by decide

/-- RX-C3: length, type, payload length and CRC, each from its own register. -/
theorem test_frame_reads :
    [0x1400#16, 0x1500#16, 0x1600#16, 0x1800#16].map (fun w => afterWord (fun t => (t.st, t.rdata)) w polled) =
      [0x03#8, 0x2A#8, 0x02#8, 0x73#8].map (fun v => some (0x01#8, some v)) := by decide

/-- RX-C3, RX-C4. -/
theorem test_rxRdPay :
    afterWord (fun t => (t.st, t.rdata)) 0x1701#16 polled = some (0x01#8, some 0x02#8) ∧
    afterWord (fun t => (t.st, t.rdata)) 0x1702#16 polled = some (0x11#8, some 0x00#8) := by decide

/-! ### Transmit and encode (section 3.3) -/

/-- TX-1, TX-2, TX-3, TX-5, TX-6 in both columns. -/
theorem test_encode_frames :
    [Config.spec, specTwo].map (fun c => [encodeFrame c 0x00 [], encodeFrame c 0x2A [], encodeFrame c 0x2A [0x01, 0x02],
      encodeFrame c 0xC8 [0xC8], encodeFrame c 0x14 [0x05]]) =
    [[[0xC8, 0x01, 0x00, 0x00], [0xC8, 0x01, 0x2A, 0xF2], [0xC8, 0x03, 0x2A, 0x01, 0x02, 0x73],
      [0xC8, 0x02, 0xC8, 0xC8, 0x17], [0xC8, 0x02, 0x14, 0x05, 0xB7]],
     [[0xC8, 0x02, 0x00, 0x00], [0xC8, 0x02, 0x2A, 0xF2], [0xC8, 0x04, 0x2A, 0x01, 0x02, 0x73],
      [0xC8, 0x03, 0xC8, 0xC8, 0x17], [0xC8, 0x03, 0x14, 0x05, 0xB7]]] := by decide

/-- TX-C2. -/
theorem test_txSetType : afterWord (fun t => (t.txType, t.txPay, t.rdata)) 0x2016#16 staged =
    some (0x16#8, [0x01#8, 0x02#8], some 0x00#8) := by decide

/-- TX-C3, TX-C4. -/
theorem test_txPut :
    afterWord (fun t => (t.txPay, t.st, t.rdata)) 0x2102#16 { State.reset with txPay := [0x01#8] } =
      some ([0x01#8, 0x02#8], 0x00#8, some 0x00#8) ∧
    afterWord (fun t => (t.txPay, t.st, t.rdata)) 0x21AA#16 { State.reset with txPay := List.replicate 60 0x11#8 } =
      some (List.replicate 60 0x11#8, 0x08#8, some 0x00#8) := by decide

/-- TX-C6. -/
theorem test_txClear : afterWord (fun t => (t.txType, t.txPay, t.rdata)) 0x2200#16 staged =
    some (0x2A#8, [], some 0x00#8) := by decide

/-- TX-C1, TX-C5. -/
theorem test_txSend :
    afterWord (fun t => (t.txLog, t.rdata)) 0x2300#16 State.reset = some ([[0xC8#8, 0x01#8, 0x00#8, 0x00#8]], some 0x00#8) ∧
    afterWord (fun t => (t.txLog, t.txPay)) 0x2300#16 { staged with txLog := [[0x00#8]] } =
      some ([[0x00#8], [0xC8#8, 0x03#8, 0x2A#8, 0x01#8, 0x02#8, 0x73#8]], [0x01#8, 0x02#8]) := by decide

/-- The example of R115. -/
theorem test_txCount : afterWord (fun t => (t.txPay, t.rdata)) 0x2400#16 staged =
    some ([0x01#8, 0x02#8], some 0x02#8) := by decide

/-! ### Control and status (section 3.4) -/

/-- CT-1: the block's own state and the logs are as before. -/
theorem test_nop : afterWord id 0x0000#16 polled = some { polled with responses := [0x00#8] } := by decide

/-- CT-10, CT-11. -/
theorem test_stRead :
    afterWord State.rdata 0x3000#16 { State.reset with fv := true, matchFlag := true } = some (some 0x03#8) ∧
    afterWord State.rdata 0x3000#16 State.reset = some (some 0x00#8) := by decide

/-- CT-6, CT-8, CT-9. -/
theorem test_stClear :
    afterWord State.st 0x3104#16 { State.reset with ill := true, rxovf := true } = some 0x20#8 ∧
    afterWord State.st 0x31FF#16
      { State.reset with ill := true, range := true, txovf := true, rxovf := true, matchFlag := true, fv := true } =
        some 0x03#8 ∧
    afterWord State.st 0x31C3#16 { State.reset with ill := true, range := true, txovf := true, rxovf := true } =
      some 0x3C#8 := by decide

/-- CT-2 to CT-5. -/
theorem test_illegal_words_set_ill :
    [0x4000#16, 0xFFFF#16, 0x0500#16, 0x1900#16, 0x2500#16, 0x3200#16].map
      (fun w => afterWord (fun t => (t.st, t.rdata)) w State.reset) = List.replicate 6 (some (0x20#8, some 0x00#8)) := by decide

/-! ### Ports -/

/-- The transport's word is `RX_PUSH` of its byte (R35; program P2, command 8). -/
theorem test_transport_pushes : pushWord 0xC8#8 = 0x10C8#16 ∧
    next? (step { State.reset with port := [.transport 0xC8#8] }) =
      some { State.reset with rxbuf := [0xC8#8], responses := [0x00#8] } := by decide

/-- R138, R139: reset clears the block and keeps what was written. -/
theorem test_reset_clears_the_block :
    next? (step { polled with port := [.reset none], ill := true, txLog := [[0x00#8]] }) =
      some { State.reset with txLog := [[0x00#8]] } := by decide

/-- The host's way in: the next step runs the word. -/
theorem test_withFetchWord_runs_next :
    next? (step (State.reset.withFetchWord 16 0x2016)) = some { State.reset with txType := 0x16#8, responses := [0x00#8] } := by
  decide

/-! ### The assembler (R66 to R69; the sources of programs P1, P2 and P5) -/

theorem test_assemble_p1_lines :
    assemble ["CRC8 0x31,0x32".toList, "CRC_CHECK 0xBC".toList, "CRC_UPDATE 0xBC      ; fold the CRC in".toList,
      "ST_READ".toList] = .ok [0x0100#16, 0x0231#16, 0x0232#16, 0x0300#16, 0x04BC#16, 0x02BC#16, 0x3000#16] := by decide

theorem test_assemble_p2_and_p5_lines :
    assemble ["TX_FRAME 0x16, 0x10, 0x20".toList, "RX_RD_PAY 3".toList, "ST_CLEAR_ALL".toList, ".word 0xFFFF".toList,
      "RX_FEED 0xC8,0x04".toList, "CRC_BYTES 1".toList] =
      .ok [0x2200#16, 0x2016#16, 0x2110#16, 0x2120#16, 0x2300#16, 0x1703#16, 0x313C#16, 0xFFFF#16, 0x10C8#16, 0x1004#16,
        0x0201#16] := by decide

theorem test_assembler_refusals :
    ["ST_READ 1", "RX_PUSH", "RX_PUSH 256", "RX_PUSH 0x100", "RX_PUSH 1, 2", "rx_poll", "RX_PUSH x", ".word 0x100"].map
      (fun l => assembleLine l.toList) =
    [.error .unexpectedOperand, .error .missingOperand, .error .operandOutOfRange, .error .operandOutOfRange,
      .error .tooManyOperands, .error .unknownMnemonic, .error .notANumber, .error .notANumber] := by decide

/-- R69: `CRC_UPDATE 0x31` is listed as 0x0231. -/
theorem test_listing : listing (encode (.crcUpdate 0x31#8)) = "0x0231".toList ∧ listing 0xFFFF#16 = "0xFFFF".toList := by decide

end Sys2Proof.Tests
end

