-- ==== Sys2Proof/Tests/Witnesses.lean ====
section
/-! SUPPORT. For every statement with hypotheses, a concrete state and operands that meet them all, for each of its clauses, at
a boundary where the clause has one. -/

set_option maxRecDepth 100000

namespace Sys2Proof.Tests

open Sys2Proof Sys2Proof.Machine

/-- `n` bytes. -/
def someBytes (n : Nat) : List Byte := (List.range n).map (BitVec.ofNat 8)

/-- A push of the transport and a poll of the host are presented. -/
def pushThenPoll : State := State.reset.present [.transport 0x00#8, .host 0x1100#16]

theorem witness_CrcCheckComparesAndWritesMatch :
    State.reset.crc = 0x00#8 ∧ State.reset.crc ≠ 0x01#8 := by decide

theorem witness_AccumulatorComputesCrc8 : ∃ s₀ t : State,
    exec (.crcInit 0) (State.reset.present (hostWords [0x0231#16])) = .next s₀ ∧ runFor 1 s₀ = .next t ∧
    always State.keepsCrc 1 s₀ = true ∧ collect State.folds 1 s₀ = [0x31#8] :=
  ⟨_, _, rfl, rfl, by decide, by decide⟩

theorem witness_CrcDetectsErrors_small :
    FlipsOneBit [0x01, 0x00] ∧ FlipsOddly [0x07, 0x00] ∧ ([0x01, 0x00] : List Byte).length = ([] : List Byte).length + 2 := by
  decide

theorem witness_CrcDetectsErrors_burst : BurstOfEight [0x01, 0xFE] :=
  ⟨7, List.replicate 8 true, 1, by decide, by decide, by decide⟩

theorem witness_CrcDetectsErrors_two_bits :
    (∃ k < 93, FlipsTwoBits k (0x80#8 :: List.replicate 10 0x00#8 ++ [0x08#8])) ∧
    FlipsTwoBits 93 (0x80#8 :: List.replicate 10 0x00#8 ++ [0x04#8]) ∧
    (0x80#8 :: List.replicate 10 0x00#8 ++ [0x08#8]).length = (someBytes 10).length + 2 :=
  ⟨⟨92, by decide, 0, 3, by decide, by decide⟩, ⟨0, 2, by decide, by decide⟩, by decide⟩

theorem witness_PushAppendsOrRecordsOverflow :
    (someBytes 63).length < Config.spec.rxCap ∧ Config.spec.rxCap ≤ (someBytes 64).length := by decide

theorem witness_PollRunsTheDecoderOnce :
    (∃ f rest, decodeBuf Config.spec [0xC8, 0x01, 0x2A, 0xF2] = .frame f rest) ∧
    (∃ rest, decodeBuf Config.spec [0xC8] = .needMore rest) := ⟨⟨_, _, rfl⟩, ⟨_, rfl⟩⟩

theorem witness_DecoderScansNoiseAway :
    (∀ b ∈ [0x00#8, 0xFF#8], b ≠ Config.spec.sync) ∧ decodeBuf Config.spec [0x00, 0xFF] = .needMore [] := by decide

theorem witness_DecoderDropsOnlyTheSyncOfAFailedCandidate :
    (0x00#8).toNat < Config.spec.lenAdj ∧ pMax Config.spec + Config.spec.lenAdj < (0x3E#8).toNat ∧
    ((0x01#8).toNat = ([] : List Byte).length + Config.spec.lenAdj ∧ ([] : List Byte).length ≤ pMax Config.spec ∧
      crc8 [0x2A#8] ≠ 0xF3#8) ∧
    ((0x3D#8).toNat = (someBytes 60).length + Config.spec.lenAdj ∧ (someBytes 60).length ≤ pMax Config.spec ∧
      crc8 (0x55#8 :: someBytes 60) ≠ 0xE8#8) := by decide

theorem witness_DecoderWaitsInExactlyThreeCases :
    decodeBuf Config.spec (0xC8#8 :: 0x3D#8 :: someBytes 61) = .needMore (0xC8#8 :: 0x3D#8 :: someBytes 61) ∧
    (0xC8#8 :: 0x3D#8 :: someBytes 61).length = 63 := by decide

theorem witness_DecoderYieldsOnlyValidFrames : ∃ f,
    decodeBuf Config.spec [0x00, 0xC8, 0x03, 0x2A, 0x01, 0x02, 0x73, 0x00] = .frame f [0x00] := ⟨_, rfl⟩

theorem witness_PollingDutyPreventsOverflow_leaves :
    Config.spec.Legal ∧ decodeBuf Config.spec (0xC8#8 :: 0x3D#8 :: someBytes 61) = .needMore (0xC8#8 :: 0x3D#8 :: someBytes 61) :=
  by decide

theorem witness_PollingDutyPreventsOverflow_runs :
    let s : State := { pushThenPoll with rxbuf := List.replicate 63 0x00#8, rxovf := true }
    s.cfg.Legal ∧ s.rxbuf.length ≤ s.cfg.maxFrame - 1 ∧
    (collect State.pushes 2 s).length = s.cfg.rxCap - s.cfg.maxFrame + 1 ∧
    ∃ t, runFor 2 s = .next t ∧ t.rxovf = true :=
  ⟨by decide, by decide, by decide, _, rfl, rfl⟩

theorem witness_PollDecodesWhatTheEncoderEncodes :
    let s : State := { State.reset with rxbuf := encodeFrame Config.spec 0x55 (someBytes 60) ++ [] }
    s.cfg.Legal ∧ (someBytes 60).length = pMax s.cfg ∧ s.rxbuf = encodeFrame s.cfg 0x55 (someBytes 60) ++ [] := by decide

theorem witness_CountsAnswerTheLengths :
    let s : State := { State.reset with rxbuf := someBytes 64, txPay := someBytes 60 }
    s.cfg.Legal ∧ s.Inv := by decide

theorem witness_PayloadReadIsIndexedAndRangeChecked :
    polled.Inv ∧ (0x01#8).toNat < polled.fPay.length ∧ polled.fPlen.toNat ≤ (0x02#8).toNat := by decide

theorem witness_AppendedBytesNeverChangeADecision :
    (∃ f rest, decodeBuf Config.spec [0xC8, 0x01, 0x2A, 0xF2] = .frame f rest) ∧
    (∃ rest, decodeBuf Config.spec [0xC8, 0x05, 0xC8, 0x01, 0x2A, 0xF2] = .needMore rest) := ⟨⟨_, _, rfl⟩, ⟨_, rfl⟩⟩

/-- The last byte of a frame is pushed, and the poll yields it: the run loses nothing, and both lists it speaks of are not
empty. Also for the disjointness statement. -/
theorem witness_FramesDependOnlyOnTheStream :
    let s : State := { State.reset with rxbuf := [0xC8, 0x01, 0x2A], port := [.transport 0xF2#8, .host 0x1100#16] }
    (∃ t, runFor 2 s = .next t) ∧ always State.losesNothing 2 s = true ∧ collect State.pushes 2 s = [0xF2#8] ∧
    collect State.yields 2 s = [⟨0x01, 0x2A, 0x00, [], 0xF2⟩] := ⟨⟨_, rfl⟩, by decide, by decide, by decide⟩

theorem witness_YieldedFramesAreDisjointAndInStreamOrder :
    let s : State := { State.reset with rxbuf := [0xC8, 0x01, 0x2A], port := [.transport 0xF2#8, .host 0x1100#16] }
    (∃ t, runFor 2 s = .next t) ∧ always State.losesNothing 2 s = true := ⟨⟨_, rfl⟩, by decide⟩

theorem witness_CorruptByteBetweenFramesIsDropped :
    Config.spec.Legal ∧ pMax Config.spec + Config.spec.lenAdj < Config.spec.sync.toNat ∧
    ([0x01, 0x02] : List Byte).length ≤ pMax Config.spec ∧ (someBytes 60).length ≤ pMax Config.spec := by decide

theorem witness_PutAppendsOrRecordsOverflow :
    (someBytes 59).length < pMax Config.spec ∧ pMax Config.spec ≤ (someBytes 60).length := by decide

theorem witness_SentFramesAreValid : staged.cfg.Legal ∧ staged.Inv := by decide

theorem witness_EmptyPayloadAndBootFrames :
    let s : State := { State.reset with txType := 0x2A#8 }
    s.txType = 0x2A#8 ∧ s.txPay = [] := by decide

theorem witness_TxFrameSendsAtMostPMaxBytes :
    let s : State := State.reset.present (hostWords (SourceLine.txFrame 0x16#8 (someBytes 61)).words ++ [.transport 0x00#8])
    s.port = hostWords (SourceLine.txFrame 0x16#8 (someBytes 61)).words ++ [.transport 0x00#8] := rfl

theorem witness_TransmitPathIgnoresTheReceivePath :
    (∃ x, Instr.txPut 0x00#8 = .txSetType x ∨ Instr.txPut 0x00#8 = .txPut x ∨ Instr.txPut 0x00#8 = .txClear x ∨
      Instr.txPut 0x00#8 = .txSend x ∨ Instr.txPut 0x00#8 = .txCount x) ∧
    ∃ t, exec (.txPut 0x00#8) staged = .next t := ⟨⟨0x00#8, by decide⟩, _, rfl⟩

theorem witness_StatusClearClearsTheSelectedBits : 0xFF#8 &&& 0x3C#8 = 0x3C#8 &&& 0x3C#8 := by decide

theorem witness_IllegalWordSetsOnlyIll :
    [0x0500#16, 0x0FFF#16, 0x1900#16, 0x1FFF#16, 0x2500#16, 0x2FFF#16, 0x3200#16, 0xFFFF#16].all (fun w =>
      let op := (opcodeField w).toNat
      decide ((5 ≤ op ∧ op ≤ 0x0F) ∨ (0x19 ≤ op ∧ op ≤ 0x1F) ∨ (0x25 ≤ op ∧ op ≤ 0x2F) ∨ 0x32 ≤ op)) = true ∧
    (State.reset.present [.host 0x0500#16]).port = .host 0x0500#16 :: [] := ⟨by decide, rfl⟩

/-- Every bound of R62: the last legal and first illegal opcodes, and the last illegal and next legal ones. -/
theorem witness_IllegalOpcodesAreExactlyThoseOfTheTable :
    [0x0500#16, 0x0F00#16, 0x1900#16, 0x1F00#16, 0x2500#16, 0x2F00#16, 0x3200#16, 0xFF00#16].all
      (fun w => next? (step (State.reset.presentNext (.host w))) == some { State.reset with ill := true, responses := [0] }) ∧
    [0x0400#16, 0x1000#16, 0x1800#16, 0x2000#16, 0x2400#16, 0x3000#16, 0x3100#16].all
      (fun w => (decodeTableWord 16 w.toNat).isSome) := by decide

theorem witness_IgnoredOperandHasNoEffect :
    decode 0x0300#16 = .ok (.crcRead 0x00#8) ∧ (Instr.crcRead 0x00#8).ignoredOperand = some 0x00#8 ∧
    opcodeField 0x03FF#16 = opcodeField 0x0300#16 := by decide

theorem witness_StepRunsTheCommandPresented :
    ((State.reset.present [.host 0x0231#16]).port = .host 0x0231#16 :: [] ∧
      decode 0x0231#16 = .ok (.crcUpdate 0x31#8)) ∧
    (State.reset.present [.transport 0xC8#8]).port = .transport 0xC8#8 :: [] ∧
    decodeTableWord 16 0x3100 = some (.stClear 0x00#8) ∧ State.reset.port = [] := by decide

theorem witness_OneResponsePerCommand :
    (∃ t, step pushThenPoll = .next t) ∧ pushThenPoll.accepted = .command (.rxPush 0x00#8) ∧
    (∃ t, step (State.reset.present [.host 0x4000#16]) = .next t) ∧
    (State.reset.present [.host 0x4000#16]).accepted = .illegal 0x4000#16 := ⟨⟨_, rfl⟩, by decide, ⟨_, rfl⟩, by decide⟩

theorem witness_OnlyCrcCommandsWriteCrc : ∃ t, step (State.reset.present [.host 0x0231#16]) = .next t := ⟨_, rfl⟩

theorem witness_OnlyCheckAndPollWriteTheResultFlags : ∃ t, step (State.reset.present [.host 0x0400#16]) = .next t := ⟨_, rfl⟩

theorem witness_RxbufIsAppendedAtTheEndAndTakenAtTheHead : ∃ t, step pushThenPoll = .next t := ⟨_, rfl⟩

theorem witness_OnlyAFrameResultWritesTheFrameRegisters :
    let s : State := { State.reset with rxbuf := [0xC8, 0x01, 0x2A, 0xF2], port := [.host 0x1100#16] }
    ∃ t, step s = .next t := ⟨_, rfl⟩

theorem witness_OnlyStagingCommandsWriteTheStaging : ∃ t, step (State.reset.present [.host 0x2101#16]) = .next t := ⟨_, rfl⟩

theorem witness_StickyFlagsAreSetAndClearedOnlyAsListed :
    ∃ t, step ({ polled with rxovf := true }.present [.host 0x3108#16]) = .next t := ⟨_, rfl⟩

theorem witness_FramesLeaveOnlyThroughSend : ∃ t, step (staged.present [.host 0x2300#16]) = .next t := ⟨_, rfl⟩

theorem witness_ParametersNeverChange : ∃ t, runFor 2 pushThenPoll = .next t := ⟨_, rfl⟩

theorem witness_ResetTakesPrecedence :
    (polled.present [.reset (some 0x2300#16), .reset none]).port = .reset (some 0x2300#16) :: [.reset none] ∧
    (polled.present [.reset none]).port = .reset none :: [] := by decide

theorem witness_EveryStepKeepsTheInvariant :
    polled.Inv ∧ ∃ t, step (polled.present [.transport 0xC8#8]) = .next t := ⟨by decide, _, rfl⟩

theorem witness_FrameTrafficIgnoresTheCrcRegister :
    0x10 ≤ (Instr.rxPush 0x00#8).opcode.toNat ∧ (Instr.txCount 0x00#8).opcode.toNat ≤ 0x24 ∧
    (∃ t, exec (.rxPush 0x00#8) polled = .next t) ∧ ∃ t, exec (.txCount 0x00#8) polled = .next t :=
  ⟨by decide, by decide, ⟨_, rfl⟩, _, rfl⟩

theorem witness_PushCommutesWithHostCommands : ∃ t u v w : State,
    exec (.rxPush 0xC8#8) polled = .next t ∧ exec (.rxRdPay 0x02#8) t = .next u ∧
    exec (.rxRdPay 0x02#8) polled = .next v ∧ exec (.rxPush 0xC8#8) v = .next w := ⟨_, _, _, _, rfl, rfl, rfl, rfl⟩

theorem witness_PushCommutesWithHostCommands_command : ∀ x : Byte,
    Instr.rxRdPay 0x02#8 ≠ .rxPush x ∧ Instr.rxRdPay 0x02#8 ≠ .rxPoll x ∧ Instr.rxRdPay 0x02#8 ≠ .rxFlush x ∧
    Instr.rxRdPay 0x02#8 ≠ .rxCount x ∧ Instr.rxRdPay 0x02#8 ≠ .stRead x ∧ Instr.rxRdPay 0x02#8 ≠ .stClear x := by
  intro x
  refine ⟨?_, ?_, ?_, ?_, ?_, ?_⟩ <;> nofun

theorem witness_LoopbackDeliversTheSentFrame :
    let events : List PortEvent := hostWords (SourceLine.txFrame 0x16#8 (someBytes 60)).words ++
      transportBytes (encodeFrame Config.spec 0x16#8 (someBytes 60)) ++ .host (encode (.rxPoll 0x00#8)) :: []
    (State.reset.present events).cfg.Legal ∧ (someBytes 60).length ≤ pMax Config.spec ∧
    (State.reset.present events).rxbuf = [] ∧ (State.reset.present events).port = events := by decide

theorem witness_EveryStepAnswers :
    (State.reset.present [.reset (some 0x0231#16), .transport 0xC8#8]).port =
      .reset (some 0x0231#16) :: [.transport 0xC8#8] := rfl

/-- Operands at the bounds of R67, an unwanted and a missing one, and a number too large behind other bytes. -/
theorem witness_AssemblerRefusesWrongOperands :
    (∃ row ∈ mnemonics, (row.2 0x00#8).ignoredOperand.isSome = true) ∧
    (∃ row ∈ mnemonics, (row.2 0x00#8).ignoredOperand = none) ∧
    parseNumber "256".toList = some 256 ∧ parseNumber "255".toList = some (0xFF#8 : Byte).toNat ∧
    "256".toList ∈ ["1".toList, "256".toList] ∧ "RX_FEED".toList ≠ ".word".toList ∧
    parseBytes ["0".toList, "0xFF".toList] = .ok [0x00#8, 0xFF#8] ∧
    assembleLine "RX_PUSH 255".toList = .ok (.command (.rxPush 0xFF#8)) ∧
    assembleLine "RX_PUSH 256".toList = .error .operandOutOfRange ∧
    assembleLine "TX_FRAME 1, 2".toList = .ok (.txFrame 0x01#8 [0x02#8]) ∧
    assembleLine ".word 0x03FF".toList = .ok (.rawWord 0x03FF#16) ∧
    (Instr.rxPush 0xFF#8).wellFormed = true ∧ (Instr.stRead 0x00#8).wellFormed = true :=
  ⟨⟨("NOP", .nop), by simp [mnemonics], by decide⟩, ⟨("RX_PUSH", .rxPush), by simp [mnemonics], by decide⟩,
    by decide, by decide, by decide, by decide, by decide, by decide, by decide, by decide, by decide, by decide,
    by decide⟩

end Sys2Proof.Tests
end

section
/-! PROOFS. The family of spec/00_scope.md: the CRC as a remainder modulo `G(x)` (R4, R74), what the decoder yields
(R17, R91), and the parameters (R10). -/

namespace Sys2Proof.Machine

open Sys2Proof

/-! ### Congruence modulo the generator

Numbers stand for polynomials over GF(2): `^^^` adds, `<<< k` multiplies by `x^k`. -/

/-- The two polynomials differ by a multiple of `G(x)`. -/
def CongrModG (a b : Nat) : Prop := ∃ shifts : List Nat, a ^^^ b = generatorMultiple shifts

@[simp] theorem generatorMultiple_nil : generatorMultiple [] = 0 := rfl

@[simp] theorem generatorMultiple_cons (k : Nat) (shifts : List Nat) :
    generatorMultiple (k :: shifts) = (generator <<< k) ^^^ generatorMultiple shifts := rfl

theorem generatorMultiple_append (shifts more : List Nat) :
    generatorMultiple (shifts ++ more) = generatorMultiple shifts ^^^ generatorMultiple more := by
  induction shifts with
  | nil => simp
  | cons k shifts ih => simp [ih, Nat.xor_assoc]

theorem generatorMultiple_shiftLeft (shifts : List Nat) (k : Nat) :
    generatorMultiple shifts <<< k = generatorMultiple (shifts.map (· + k)) := by
  induction shifts with
  | nil => simp
  | cons j shifts ih => simp [Nat.shiftLeft_xor_distrib, Nat.shiftLeft_add, ih]

theorem CongrModG.eq_multiple_xor {a b : Nat} : CongrModG a b → ∃ shifts, a = generatorMultiple shifts ^^^ b := by
  rintro ⟨shifts, hab⟩
  exact ⟨shifts, by rw [← hab, Nat.xor_xor_cancel_right]⟩

theorem CongrModG.refl (a : Nat) : CongrModG a a := ⟨[], Nat.xor_self a⟩

theorem CongrModG.trans {a b c : Nat} : CongrModG a b → CongrModG b c → CongrModG a c := by
  rintro ⟨shifts, hab⟩ ⟨more, hbc⟩
  refine ⟨shifts ++ more, ?_⟩
  calc a ^^^ c = (a ^^^ b) ^^^ (b ^^^ c) := by simp [Nat.xor_assoc]
    _ = generatorMultiple (shifts ++ more) := by rw [hab, hbc, generatorMultiple_append]

theorem CongrModG.xor_right {a b : Nat} (c : Nat) : CongrModG a b → CongrModG (a ^^^ c) (b ^^^ c) := by
  rintro ⟨shifts, hab⟩
  refine ⟨shifts, ?_⟩
  calc (a ^^^ c) ^^^ (b ^^^ c) = (a ^^^ b) ^^^ (c ^^^ c) := by ac_rfl
    _ = generatorMultiple shifts := by simp [hab]

theorem CongrModG.shiftLeft {a b : Nat} (k : Nat) : CongrModG a b → CongrModG (a <<< k) (b <<< k) := by
  rintro ⟨shifts, hab⟩
  exact ⟨shifts.map (· + k), by rw [← Nat.shiftLeft_xor_distrib, hab, generatorMultiple_shiftLeft]⟩

/-! ### The CRC folds -/

/-- One pass of R74 doubles the remainder and, where `x^8` appears, adds the generator. -/
theorem shiftLeft_xor_crc8Shift (c : Byte) :
    c.toNat <<< 1 ^^^ (crc8Shift c).toNat = if c.getLsbD 7 then generator else 0 := by
  revert c
  decide

theorem crc8Shift_congr (c : Byte) : CongrModG (c.toNat <<< 1) (crc8Shift c).toNat := by
  rw [CongrModG, shiftLeft_xor_crc8Shift]
  cases c.getLsbD 7 with
  | false => exact ⟨[], rfl⟩
  | true => exact ⟨[0], rfl⟩

theorem crc8Shifts_congr (k : Nat) (c : Byte) : CongrModG (c.toNat <<< k) (crc8Shifts k c).toNat := by
  induction k generalizing c with
  | zero => exact .refl _
  | succ k ih =>
    have hfirst : CongrModG (c.toNat <<< (k + 1)) ((crc8Shift c).toNat <<< k) := by
      rw [Nat.add_comm, Nat.shiftLeft_add]
      exact (crc8Shift_congr c).shiftLeft k
    exact hfirst.trans (ih (crc8Shift c))

theorem crc8Step_congr (c b : Byte) : CongrModG ((c.toNat ^^^ b.toNat) <<< 8) (crc8Step c b).toNat := by
  rw [← BitVec.toNat_xor]
  exact crc8Shifts_congr 8 (c ^^^ b)

theorem crc8_concat (s : List Byte) (b : Byte) : crc8 (s ++ [b]) = crc8Step (crc8 s) b := by
  simp [crc8, crc8From_append]

/-- Appending a `k`-bit number below a shifted one carries nothing: the sum is the sum over GF(2). -/
theorem shiftLeft_add_eq_xor_of_lt {b k : Nat} (hb : b < 2 ^ k) (a : Nat) : a <<< k + b = a <<< k ^^^ b := by
  rw [Nat.shiftLeft_add_eq_or_of_lt hb]
  apply Nat.eq_of_testBit_eq
  intro i
  rcases Nat.lt_or_ge i k with hi | hi
  · simp [Nat.not_le.mpr hi]
  · have hbit : b.testBit i = false := Nat.testBit_lt_two_pow (hb.trans_le (Nat.pow_le_pow_right Nat.two_pos hi))
    simp [hbit]

theorem messageNat_concat (s : List Byte) (b : Byte) :
    messageNat (s ++ [b]) = messageNat s <<< 8 ^^^ b.toNat := by
  rw [← shiftLeft_add_eq_xor_of_lt b.isLt]
  simp [messageNat, Nat.shiftLeft_eq]

/-- R74 over a whole sequence. The induction adds bytes at the end, where the message polynomial and the CRC
grow alike: what was there is multiplied by `x^8`, and the byte is added. -/
theorem messageNat_congr_crc8 (s : List Byte) : CongrModG (messageNat s <<< 8) (crc8 s).toNat := by
  induction s using List.reverseRecOn with
  | nil => exact .refl 0
  | append_singleton s b ih =>
    rw [messageNat_concat, crc8_concat]
    exact ((ih.xor_right b.toNat).shiftLeft 8).trans (crc8Step_congr (crc8 s) b)

/-- Settles O6: the message polynomial is congruent to its CRC modulo `G(x)`, by induction over the sequence. -/
theorem crcIsThePolynomialRemainder : Obligations.CrcIsThePolynomialRemainder :=
  fun s => (messageNat_congr_crc8 s).eq_multiple_xor

/-! ### What the decoder yields -/

/-- What a frame found at the head of the buffer is, and where it stands (R17, R91). -/
theorem judge_found {c : Config} {b : Byte} {buf : List Byte} {f : Frame} {n : Nat}
    (h : judge c (b :: buf) = .found f n) : f.Valid c ∧ b :: buf = f.wire c ++ (b :: buf).drop n := by
  obtain ⟨-, hj⟩ | ⟨-, -, hj⟩ | ⟨L, body, -, -, -, hj⟩ | ⟨L, body, -, -, -, -, hj⟩ |
    ⟨L, t, crc, pay, more, hb, hbuf, hL, hpay, ⟨-, hj⟩ | ⟨hcrc, hj⟩⟩ := judge_cases c b buf
  · cases hj.symm.trans h
  · cases hj.symm.trans h
  · cases hj.symm.trans h
  · cases hj.symm.trans h
  · cases hj.symm.trans h
  · obtain ⟨rfl, rfl⟩ := Verdict.found.inj (hj.symm.trans h)
    obtain ⟨hmin, hmax⟩ := (lengthFailure_eq_false c L).mp hL
    have hlen : pay.length < 2 ^ 8 := by omega
    subst hb hbuf
    refine ⟨⟨?_, ?_, ?_, hcrc.symm⟩, ?_⟩
    · simp only; omega
    · simpa [toByte] using hlen
    · simp only; omega
    · simp [Frame.wire]

/-- Settles O15, by induction over the passes of the decoder: a discarded byte joins the bytes in front of the frame. -/
theorem decoderYieldsOnlyValidFrames : Obligations.DecoderYieldsOnlyValidFrames := by
  intro c buf rest f h
  induction buf with
  | nil => cases h
  | cons b buf ih =>
    cases hj : judge c (b :: buf) with
    | wait => rw [decodeBuf_of_wait c b buf hj] at h; cases h
    | discard =>
      rw [decodeBuf_of_discard c b buf hj] at h
      obtain ⟨hvalid, discarded, hbuf⟩ := ih h
      exact ⟨hvalid, b :: discarded, by rw [hbuf]; rfl⟩
    | found g n =>
      rw [decodeBuf_of_found c b buf g n hj] at h
      obtain ⟨rfl, rfl⟩ := DecodeResult.frame.inj h
      obtain ⟨hvalid, hbuf⟩ := judge_found hj
      exact ⟨hvalid, [], hbuf⟩

/-! ### The parameters -/

/-- No command writes the parameters (R10). -/
theorem exec_keeps_cfg {i : Instr} {s t : State} (h : exec i s = .next t) : t.cfg = s.cfg := by
  cases i with
  | rxPush _ | rxPoll _ | rxRdPay _ | txPut _ =>
    simp only [exec, execRxPush, execRxPoll, execRxRdPay, execTxPut] at h
    split at h
    · cases h; rfl
    · cases h; rfl
  | _ => cases h; rfl

theorem step_keeps_cfg {s t : State} (h : step s = .next t) : t.cfg = s.cfg := by
  obtain ⟨-, rfl⟩ | ⟨o, -, rfl⟩ | ⟨w, -, rfl⟩ | ⟨i, -, hexec⟩ := step_cases h
  · rfl
  · simp
  · simp
  · simpa using exec_keeps_cfg hexec

/-- Settles O51, by induction on the number of steps: every step keeps the parameters. -/
theorem parametersNeverChange : Obligations.ParametersNeverChange := by
  intro n
  induction n with
  | zero => rintro s t ⟨⟩; rfl
  | succ n ih =>
    intro s t h
    cases hstep : step s with
    | next u =>
      rw [runFor_succ_of_next hstep] at h
      exact (ih u t h).trans (step_keeps_cfg hstep)
    | fault r => rw [runFor_succ, hstep] at h; cases h
    | refused r => rw [runFor_succ, hstep] at h; cases h

end Sys2Proof.Machine
end

section
/-! PROOFS. The family of spec/10_state.md: which event writes which field of the state (R20 to R27), the invariants of
R33, and the reset values of R37. -/

namespace Sys2Proof.Machine

open Sys2Proof

/-! ### What a command writes -/

/-- The bytes a decoder result leaves in the buffer (R88). -/
def DecodeResult.rest : DecodeResult → List Byte
  | .needMore rest => rest
  | .frame _ rest => rest

/-- The result is FRAME (R88). -/
def DecodeResult.isFrame : DecodeResult → Bool
  | .needMore _ => false
  | .frame _ _ => true

/-- The frame the registers hold after a poll with this result: `old` where it is not FRAME (R89). -/
def DecodeResult.frameOr (old : Frame) : DecodeResult → Frame
  | .needMore _ => old
  | .frame f _ => f

/-- The state with what the command writes besides `rdata`, field by field: a condition stands inside the field it
decides, so that every field of it can be read off. `exec_eq_written` ties it to `exec`. -/
def State.written (i : Instr) (s : State) : State :=
  match i with
  | .crcInit _ => s.setCrc crcStart
  | .crcUpdate b => s.setCrc (crc8Step s.crc b)
  | .crcCheck b => s.setMatch (s.crc == b)
  | .rxPush b =>
    { s with
      rxbuf := if s.rxbuf.length < s.cfg.rxCap then s.rxbuf ++ [b] else s.rxbuf
      rxovf := s.rxovf || decide (s.cfg.rxCap ≤ s.rxbuf.length) }
  | .rxPoll _ =>
    ((s.setRxbuf (decodeBuf s.cfg s.rxbuf).rest).setFrame ((decodeBuf s.cfg s.rxbuf).frameOr s.frameRegs)).setFv
      (decodeBuf s.cfg s.rxbuf).isFrame
  | .rxFlush _ => s.setRxbuf []
  | .rxRdPay k => { s with range := s.range || decide (s.fPlen.toNat ≤ k.toNat) }
  | .txSetType t => s.setTxType t
  | .txPut b =>
    { s with
      txPay := if s.txPay.length < pMax s.cfg then s.txPay ++ [b] else s.txPay
      txovf := s.txovf || decide (pMax s.cfg ≤ s.txPay.length) }
  | .txClear _ => s.setTxPay []
  | .txSend _ => s.emitTx (encodeFrame s.cfg s.txType s.txPay)
  | .stClear mask => s.clearSticky mask
  | _ => s

/-- Every command completes: it writes its fields and answers (R60). -/
theorem exec_eq_written (i : Instr) (s : State) : ∃ v, exec i s = .next ((s.written i).respond v) := by
  cases i with
  | rxPush b =>
    rcases Nat.lt_or_ge s.rxbuf.length s.cfg.rxCap with hroom | hfull
    · exact ⟨_, by simp [exec, execRxPush, State.written, hroom, hroom.not_ge]; rfl⟩
    · exact ⟨_, by simp [exec, execRxPush, State.written, hfull.not_gt, hfull]; rfl⟩
  | rxPoll x =>
    cases hres : decodeBuf s.cfg s.rxbuf with
    | needMore rest => exact ⟨_, by simp [exec, execRxPoll, State.written, hres]; rfl⟩
    | frame f rest => exact ⟨_, by simp [exec, execRxPoll, State.written, hres]; rfl⟩
  | rxRdPay k =>
    rcases Nat.lt_or_ge k.toNat s.fPlen.toNat with hin | hout
    · exact ⟨_, by simp [exec, execRxRdPay, indexOperand, State.written, hin, hin.not_ge]; rfl⟩
    · exact ⟨_, by simp [exec, execRxRdPay, indexOperand, State.written, hout.not_gt, hout]; rfl⟩
  | txPut b =>
    rcases Nat.lt_or_ge s.txPay.length (pMax s.cfg) with hroom | hfull
    · exact ⟨_, by simp [exec, execTxPut, State.written, hroom, hroom.not_ge]; rfl⟩
    · exact ⟨_, by simp [exec, execTxPut, State.written, hfull.not_gt, hfull]; rfl⟩
  | _ => exact ⟨_, rfl⟩

/-- No command reads or writes what has still to be presented. -/
theorem State.written_consume (i : Instr) (s : State) : s.consume.written i = (s.written i).consume := by
  cases i <;> rfl

/-- `step_cases` with the command's writes in place of its `exec`. -/
theorem step_written {s t : State} (h : step s = .next t) :
    (s.accepted = .nothing ∧ t = s) ∨
    (∃ o, s.accepted = .reset o ∧ t = s.consume.resetOver o) ∨
    (∃ w, s.accepted = .illegal w ∧ t = s.consume.takeIllegal) ∨
    (∃ i v, s.accepted = .command i ∧ t = (s.written i).consume.respond v) := by
  obtain hidle | hreset | hill | ⟨i, hi, hexec⟩ := step_cases h
  · exact .inl hidle
  · exact .inr (.inl hreset)
  · exact .inr (.inr (.inl hill))
  · obtain ⟨v, hv⟩ := exec_eq_written i s.consume
    rw [hv] at hexec
    cases hexec
    exact .inr (.inr (.inr ⟨i, v, hi, by rw [State.written_consume]⟩))

/-- The decoder takes bytes only from the head of the buffer (R85, R88). -/
theorem decodeBuf_rest_suffix (c : Config) (buf : List Byte) : (decodeBuf c buf).rest <:+ buf := by
  induction buf with
  | nil => exact List.suffix_rfl
  | cons b buf ih =>
    cases hj : judge c (b :: buf) with
    | wait =>
      rw [decodeBuf_of_wait c b buf hj]
      exact List.suffix_rfl
    | discard =>
      rw [decodeBuf_of_discard c b buf hj]
      exact ih.trans (List.suffix_cons b buf)
    | found f n =>
      rw [decodeBuf_of_found c b buf f n hj]
      exact List.drop_suffix n (b :: buf)

/-! ### Which event writes which field -/

/-- Settles O44, by the kind of event: of the commands only two set `CRC` in `State.written`. -/
theorem onlyCrcCommandsWriteCrc : Obligations.OnlyCrcCommandsWriteCrc := by
  intro s t h
  obtain ⟨ha, rfl⟩ | ⟨o, ha, rfl⟩ | ⟨w, ha, rfl⟩ | ⟨i, v, ha, rfl⟩ := step_written h
  · simp [ha]
  · exact .inr (.inr (.inl ⟨o, ha, State.resetOver_crc o s.consume⟩))
  · simp [ha]
  · cases i with
    | crcInit x => exact .inl ⟨x, ha, rfl⟩
    | crcUpdate b => exact .inr (.inl ⟨b, ha, rfl⟩)
    | _ => simp [ha, State.written]

/-- Settles O45: a poll's `FV` is read off the decoder's result. -/
theorem onlyCheckAndPollWriteTheResultFlags : Obligations.OnlyCheckAndPollWriteTheResultFlags := by
  intro s t h
  obtain ⟨ha, rfl⟩ | ⟨o, ha, rfl⟩ | ⟨w, ha, rfl⟩ | ⟨i, v, ha, rfl⟩ := step_written h
  · simp [ha]
  · simp [ha]
  · simp [ha]
  · rw [ha]
    cases i with
    | rxPoll x => cases hres : decodeBuf s.cfg s.rxbuf <;> simp [State.written, hres, DecodeResult.isFrame]
    | _ => exact ⟨rfl, rfl⟩

/-- Settles O46: what a poll leaves is a suffix of the buffer. -/
theorem rxbufIsAppendedAtTheEndAndTakenAtTheHead : Obligations.RxbufIsAppendedAtTheEndAndTakenAtTheHead := by
  intro s t h
  obtain ⟨ha, rfl⟩ | ⟨o, ha, rfl⟩ | ⟨w, ha, rfl⟩ | ⟨i, v, ha, rfl⟩ := step_written h
  · simp [ha]
  · simp [ha]
  · simp [ha]
  · rw [ha]
    cases i with
    | rxPoll x =>
      exact ⟨_, Nat.sub_le _ _, List.suffix_iff_eq_drop.mp (decodeBuf_rest_suffix s.cfg s.rxbuf)⟩
    | _ => rfl

/-- Settles O47: the five registers move together, as one frame. -/
theorem onlyAFrameResultWritesTheFrameRegisters : Obligations.OnlyAFrameResultWritesTheFrameRegisters := by
  intro s t h
  obtain ⟨ha, rfl⟩ | ⟨o, ha, rfl⟩ | ⟨w, ha, rfl⟩ | ⟨i, v, ha, rfl⟩ := step_written h
  · simp [ha]
  · exact .inr (.inl ⟨o, ha, by simp [State.frameRegs]⟩)
  · simp [ha, State.frameRegs]
  · cases i with
    | rxPoll x =>
      cases hres : decodeBuf s.cfg s.rxbuf with
      | needMore rest => simp [ha, State.written, State.frameRegs, hres, DecodeResult.frameOr]
      | frame f rest =>
        exact .inl ⟨x, f, rest, ha, rfl, by simp [State.written, State.frameRegs, hres, DecodeResult.frameOr]⟩
    | _ => simp [ha, State.written, State.frameRegs]

/-- Settles O48, by the kind of event: the staging of `State.written` is the claimed one for each command. -/
theorem onlyStagingCommandsWriteTheStaging : Obligations.OnlyStagingCommandsWriteTheStaging := by
  intro s t h
  obtain ⟨ha, rfl⟩ | ⟨o, ha, rfl⟩ | ⟨w, ha, rfl⟩ | ⟨i, v, ha, rfl⟩ := step_written h
  · simp [ha]
  · simp [ha]
  · simp [ha]
  · rw [ha]
    cases i <;> exact ⟨rfl, rfl⟩

/-- Settles O49: one command sets each of the first three flags, an illegal word the fourth; `ST_CLEAR` masks all four. -/
theorem stickyFlagsAreSetAndClearedOnlyAsListed : Obligations.StickyFlagsAreSetAndClearedOnlyAsListed := by
  intro s t h
  obtain ⟨ha, rfl⟩ | ⟨o, ha, rfl⟩ | ⟨w, ha, rfl⟩ | ⟨i, v, ha, rfl⟩ := step_written h
  · simp [ha]
  · simp [ha]
  · simp [ha]
  · cases i with
    | rxPush _ | rxRdPay _ | txPut _ => simp [ha, State.written, or_comm]
    | stClear mask => simp [ha, State.written, maskBit]
    | _ => simp [ha, State.written]

/-! ### The invariants of R33 -/

/-- What R33 asks of the frame registers. -/
def Frame.RegsInv (c : Config) (f : Frame) : Prop :=
  (f.plen.toNat = f.pay.length ∧ f.plen.toNat ≤ pMax c) ∧
  (0 < f.plen.toNat ∨ f.len ≠ 0x00#8 → f.len.toNat = f.plen.toNat + c.lenAdj ∧ f.crc = crc8 (f.type :: f.pay))

/-- The registers at reset (R37) meet R33, whatever the parameters. -/
theorem Frame.regsInv_reset (c : Config) :
    Frame.RegsInv c { len := 0x00#8, type := 0x00#8, plen := 0x00#8, pay := [], crc := 0x00#8 } := by
  simp [Frame.RegsInv]

theorem Frame.Valid.regsInv {c : Config} {f : Frame} : f.Valid c → f.RegsInv c := by
  rintro ⟨hlen, hplen, hmax, hcrc⟩
  exact ⟨⟨hplen, hplen ▸ hmax⟩, fun _ => ⟨hplen ▸ hlen, hcrc⟩⟩

/-- `ST` is six flags in bits 0 to 5 (R28). -/
theorem State.st_hardwired_bits (s : State) : s.st.getLsbD 6 = false ∧ s.st.getLsbD 7 = false := by
  have hflag (b : Bool) (k : Nat) (hk : 0 < k) (hk8 : k < 8) : (flagByte b)[k] = false := by
    cases b <;> simp [flagByte, hk.ne']
  simp [State.st, hflag]

/-- R33 part by part; its clause on `ST` holds of every state. -/
theorem State.inv_iff (s : State) :
    s.Inv ↔ s.rxbuf.length ≤ s.cfg.rxCap ∧ s.txPay.length ≤ pMax s.cfg ∧ s.frameRegs.RegsInv s.cfg := by
  constructor
  · rintro ⟨hrx, htx, hplen, hlen, -⟩
    exact ⟨hrx, htx, hplen, hlen⟩
  · rintro ⟨hrx, htx, hplen, hlen⟩
    exact ⟨hrx, htx, hplen, hlen, s.st_hardwired_bits⟩

theorem State.resetWith_inv (c : Config) : (State.resetWith c).Inv :=
  (State.inv_iff _).mpr ⟨Nat.zero_le _, Nat.zero_le _, Frame.regsInv_reset c⟩

/-- Settles O54. -/
theorem invariantHoldsAtReset : Obligations.InvariantHoldsAtReset :=
  ⟨State.resetWith_inv Config.spec, State.resetWith_inv⟩

/-- A bounded append keeps within its bound. -/
theorem length_appendIfRoom_le {n : Nat} {xs : List Byte} (hxs : xs.length ≤ n) (b : Byte) :
    (if xs.length < n then xs ++ [b] else xs).length ≤ n := by
  split
  · simpa
  · exact hxs

theorem step_keeps_rxbuf_bound {s t : State} (h : step s = .next t) (hs : s.rxbuf.length ≤ s.cfg.rxCap) :
    t.rxbuf.length ≤ s.cfg.rxCap := by
  have hbuf := rxbufIsAppendedAtTheEndAndTakenAtTheHead s t h
  split at hbuf
  · rw [hbuf]
    exact length_appendIfRoom_le hs _
  · obtain ⟨k, -, hk⟩ := hbuf
    rw [hk, List.length_drop]
    omega
  · simp [hbuf]
  · simp [hbuf]
  · rwa [hbuf]

theorem step_keeps_txPay_bound {s t : State} (h : step s = .next t) (hs : s.txPay.length ≤ pMax s.cfg) :
    t.txPay.length ≤ pMax s.cfg := by
  obtain ⟨-, hpay⟩ := onlyStagingCommandsWriteTheStaging s t h
  split at hpay
  · rw [hpay]
    exact length_appendIfRoom_le hs _
  · simp [hpay]
  · simp [hpay]
  · rwa [hpay]

/-- Only valid frames reach the frame registers (R17, R23). -/
theorem step_keeps_regsInv {s t : State} (h : step s = .next t) (hs : s.frameRegs.RegsInv s.cfg) :
    t.frameRegs.RegsInv s.cfg := by
  obtain ⟨x, f, rest, -, hres, ht⟩ | ⟨o, -, ht⟩ | ⟨ht, -⟩ := onlyAFrameResultWritesTheFrameRegisters s t h
  · rw [ht]
    exact (decoderYieldsOnlyValidFrames s.cfg s.rxbuf rest f hres).1.regsInv
  · rw [ht]
    exact Frame.regsInv_reset s.cfg
  · rwa [ht]

/-- Settles O55: each part of R33 is kept because only the events of O46, O47 and O48 write its fields. -/
theorem everyStepKeepsTheInvariant : Obligations.EveryStepKeepsTheInvariant := by
  intro s t hs h
  obtain ⟨hrx, htx, hregs⟩ := s.inv_iff.mp hs
  rw [State.inv_iff, step_keeps_cfg h]
  exact ⟨step_keeps_rxbuf_bound h hrx, step_keeps_txPay_bound h htx, step_keeps_regsInv h hregs⟩

/-! ### Sending from empty staging, what a step runs, and reset -/

theorem encodeFrame_nil (c : Config) (t : Byte) :
    encodeFrame c t [] = [c.sync, toByte c.lenAdj, t, crc8 [t]] := by
  simp [encodeFrame]

/-- Settles O30: both are `encodeFrame_nil`; the CRC of the type byte 0x00 is 0x00. -/
theorem emptyPayloadAndBootFrames : Obligations.EmptyPayloadAndBootFrames := by
  intro c x t s
  refine ⟨?_, ?_⟩
  · rintro rfl hpay
    simp [exec, execTxSend, hpay, encodeFrame_nil, State.emitTx, State.respond, toByte]
  · have hcrc : crc8 [0x00#8] = 0x00#8 := by decide
    simp [exec, execTxSend, State.resetWith, encodeFrame_nil, State.emitTx, State.respond, toByte, hcrc]

/-- A step with an event in front takes it off the ports. -/
theorem step_eq_exec_of_port {s : State} {e : PortEvent} {rest : List PortEvent} {i : Instr}
    (hport : s.port = e :: rest) (he : acceptEvent e = .command i) : step s = exec i { s with port := rest } := by
  rw [step_command ((State.accepted_cons hport).trans he), State.consume, hport, List.tail_cons]

theorem decode_of_decodeTableWord {nbits w : Nat} {i : Instr} (h : decodeTableWord nbits w = some i) :
    decode (tableWord nbits w) = .ok i := by
  unfold decodeTableWord at h
  split at h
  · cases h; assumption
  · cases h

/-- Settles O41: the first three clauses are `step_eq_exec_of_port`. -/
theorem stepRunsTheCommandPresented : Obligations.StepRunsTheCommandPresented := by
  refine ⟨?_, ?_, ?_, ?_⟩
  · intro w i rest s hport hw
    exact step_eq_exec_of_port hport (acceptWord_of_ok hw)
  · intro b rest s hport
    exact step_eq_exec_of_port hport (acceptEvent_transport b)
  · intro w i s hw
    exact step_eq_exec_of_port (s := s.withFetchWord 16 w) rfl (acceptWord_of_ok (decode_of_decodeTableWord hw))
  · intro s hport
    exact step_nothing (State.accepted_nil hport)

/-- Settles O52: every field is read off `State.resetWith`. -/
theorem resetStateHoldsTheResetValues : Obligations.ResetStateHoldsTheResetValues := by
  unfold Obligations.ResetStateHoldsTheResetValues
  decide

end Sys2Proof.Machine
end

section
/-! PROOFS. The family of spec/20_memory.md: the frames a run yields as disjoint intervals of the received stream (R48,
R106), frames sent in order (R49), and a push of the transport before or after a host command (R47). -/

namespace Sys2Proof.Machine

open Sys2Proof

/-! ### Frames in stream order -/

/-- The frames stand in the stream one after another, each whole and in this order, with discarded bytes in front of each
and behind the last, and `left` behind those (R48). -/
def StandInOrder (c : Config) (frames : List Frame) (stream left : List Byte) : Prop :=
  ∃ (parts : List (List Byte × Frame)) (tail : List Byte),
    frames = parts.map Prod.snd ∧ stream = layout c parts ++ tail ++ left

theorem layout_append (c : Config) (parts more : List (List Byte × Frame)) :
    layout c (parts ++ more) = layout c parts ++ layout c more := by
  induction parts with
  | nil => rfl
  | cons p parts ih => simp [layout, ih]

/-- Bytes in front of a layout join the noise of its first frame, or the tail where there is no frame. -/
theorem StandInOrder.prepend_noise {c : Config} {frames : List Frame} {stream left : List Byte} (noise : List Byte) :
    StandInOrder c frames stream left → StandInOrder c frames (noise ++ stream) left := by
  rintro ⟨parts, tail, rfl, rfl⟩
  cases parts with
  | nil => exact ⟨[], noise ++ tail, rfl, by simp [layout]⟩
  | cons p parts => exact ⟨(noise ++ p.1, p.2) :: parts, tail, rfl, by simp [layout]⟩

/-- With no frame, all that is not left is discarded. -/
theorem standInOrder_nil {c : Config} {stream left : List Byte} (h : left <:+ stream) :
    StandInOrder c [] stream left := by
  obtain ⟨tail, rfl⟩ := h
  exact ⟨[], tail, rfl, rfl⟩

/-- A stream goes on where its first part stopped: at the bytes that part left. -/
theorem StandInOrder.append {c : Config} {frames more : List Frame} {stream between ext left : List Byte}
    (hfirst : StandInOrder c frames stream between) (hnext : StandInOrder c more (between ++ ext) left) :
    StandInOrder c (frames ++ more) (stream ++ ext) left := by
  obtain ⟨parts, noise, rfl, rfl⟩ := hfirst
  obtain ⟨parts', tail, rfl, hstream⟩ := hnext.prepend_noise noise
  refine ⟨parts ++ parts', tail, List.map_append.symm, ?_⟩
  simp only [layout_append, List.append_assoc] at hstream ⊢
  rw [hstream]

/-! ### What a step pushes and yields -/

theorem State.pushes_push {s : State} {b : Byte} (ha : s.accepted = .command (.rxPush b)) : s.pushes = [b] := by
  simp [State.pushes, ha]

theorem State.yields_poll {s t : State} {x : Byte} (ha : s.accepted = .command (.rxPoll x)) (h : step s = .next t) :
    s.yields = if t.fv then [t.frameRegs] else [] := by
  simp [State.yields, ha, h]

/-- A poll yields what the decoder finds in the buffer, and leaves what the decoder leaves (R89). -/
theorem standInOrder_poll {s t : State} {x : Byte} (ha : s.accepted = .command (.rxPoll x)) (h : step s = .next t) :
    StandInOrder s.cfg s.yields s.rxbuf t.rxbuf := by
  rw [State.yields_poll ha h]
  rw [step_command ha] at h
  cases hres : decodeBuf s.cfg s.rxbuf with
  | needMore rest =>
    obtain rfl : ((s.consume.setRxbuf rest).setFv false).respond 0x00#8 = t := by
      simpa [exec, execRxPoll, hres] using h
    have hrest : rest <:+ s.rxbuf := by simpa [hres, DecodeResult.rest] using decodeBuf_rest_suffix s.cfg s.rxbuf
    exact standInOrder_nil hrest
  | frame f rest =>
    obtain rfl : (((s.consume.setRxbuf rest).setFrame f).setFv true).respond 0x01#8 = t := by
      simpa [exec, execRxPoll, hres] using h
    obtain ⟨-, discarded, hbuf⟩ := decoderYieldsOnlyValidFrames s.cfg s.rxbuf rest f hres
    exact ⟨[(discarded, f)], [], rfl, by simpa [layout] using hbuf⟩

/-- What one step does to the stream, when it loses no received byte: a push appends its byte, a poll takes bytes off the
head, and nothing else touches the buffer (R22, R48). -/
theorem step_standInOrder {s t : State} (h : step s = .next t) (hlossless : s.losesNothing = true) :
    StandInOrder s.cfg s.yields (s.rxbuf ++ s.pushes) t.rxbuf := by
  obtain ⟨ha, rfl⟩ | ⟨o, ha, -⟩ | ⟨w, ha, rfl⟩ | ⟨i, v, ha, ht⟩ := step_written h
  · simpa [State.yields, State.pushes, ha] using standInOrder_nil List.suffix_rfl
  · simp [State.losesNothing, ha] at hlossless
  · simpa [State.yields, State.pushes, ha] using standInOrder_nil List.suffix_rfl
  · cases i with
    | rxPush b =>
      have hroom : s.rxbuf.length < s.cfg.rxCap := by simpa [State.losesNothing, ha] using hlossless
      have hbuf : t.rxbuf = s.rxbuf ++ [b] := by simp [ht, State.written, hroom]
      rw [hbuf, State.pushes_push ha]
      simpa [State.yields, ha] using standInOrder_nil List.suffix_rfl
    | rxPoll x => simpa [State.pushes, ha] using standInOrder_poll ha h
    | rxFlush x => simp [State.losesNothing, ha] at hlossless
    | _ =>
      subst ht
      simpa [State.yields, State.pushes, ha, State.written] using standInOrder_nil List.suffix_rfl

/-- A run of `n + 1` steps is a step and a run of `n`. -/
theorem runFor_succ_eq_next {n : Nat} {s t : State} :
    runFor (n + 1) s = .next t ↔ ∃ u, step s = .next u ∧ runFor n u = .next t := by
  rw [runFor_succ]
  cases step s <;> simp

/-- Settles O25, by induction on the number of steps: each step lays out its part of the stream, and the next begins with
the bytes it left. -/
theorem yieldedFramesAreDisjointAndInStreamOrder : Obligations.YieldedFramesAreDisjointAndInStreamOrder := by
  intro n
  induction n with
  | zero =>
    rintro s t ⟨⟩ -
    exact ⟨[], [], rfl, by simp [collect, layout]⟩
  | succ n ih =>
    intro s t hrun hlossless
    obtain ⟨u, hstep, hrun⟩ := runFor_succ_eq_next.mp hrun
    rw [always_succ_of_next _ hstep, Bool.and_eq_true] at hlossless
    obtain ⟨hfirst, hrest⟩ := hlossless
    have hlater : StandInOrder s.cfg (collect State.yields n u) (u.rxbuf ++ collect State.pushes n u) t.rxbuf := by
      rw [← step_keeps_cfg hstep]
      exact ih u t hrun hrest
    rw [collect_succ_of_next _ hstep, collect_succ_of_next _ hstep, ← List.append_assoc]
    exact (step_standInOrder hstep hfirst).append hlater

/-! ### Frames sent -/

/-- Settles O50, by the kind of event: of the commands only `TX_SEND` writes the log in `State.written`. -/
theorem framesLeaveOnlyThroughSend : Obligations.FramesLeaveOnlyThroughSend := by
  intro s t h
  obtain ⟨ha, rfl⟩ | ⟨o, ha, rfl⟩ | ⟨w, ha, rfl⟩ | ⟨i, v, ha, rfl⟩ := step_written h
  · simp [ha]
  · simp [ha]
  · simp [ha]
  · rw [ha]
    cases i <;> rfl

/-! ### A push before or after a host command -/

/-- The command does not read or write `RXBUF` or `RXOVF` (R47). -/
def AvoidsRx (i : Instr) : Prop :=
  ∀ x, i ≠ .rxPush x ∧ i ≠ .rxPoll x ∧ i ≠ .rxFlush x ∧ i ≠ .rxCount x ∧ i ≠ .stRead x ∧ i ≠ .stClear x

/-- The state with other values of all that an `RX_PUSH` writes. -/
def State.withRx (buf : List Byte) (ovf : Bool) (answers : List Byte) (s : State) : State :=
  { s with rxbuf := buf, rxovf := ovf, responses := answers }

/-- What a push does, as an update of what it writes (R86, R87). -/
theorem exec_rxPush_eq_withRx {b : Byte} {s t : State} (h : exec (.rxPush b) s = .next t) :
    ∃ answers, t = s.withRx (if s.rxbuf.length < s.cfg.rxCap then s.rxbuf ++ [b] else s.rxbuf)
      (s.rxovf || decide (s.cfg.rxCap ≤ s.rxbuf.length)) answers := by
  obtain ⟨v, hv⟩ := exec_eq_written (.rxPush b) s
  rw [hv] at h
  cases h
  exact ⟨_, rfl⟩

/-- The frame rule of a command that avoids `RXBUF` and `RXOVF`: it keeps both, and with other values of them it does and
answers the same. -/
theorem exec_withRx {i : Instr} (hi : AvoidsRx i) {s v : State} (h : exec i s = .next v) :
    v.rxbuf = s.rxbuf ∧ v.rxovf = s.rxovf ∧
    ∃ a, v.responses = s.responses ++ [a] ∧ ∀ buf ovf answers,
      exec i (s.withRx buf ovf answers) = .next (v.withRx buf ovf (answers ++ [a])) := by
  cases i with
  | rxPush x | rxPoll x | rxFlush x | rxCount x | stRead x | stClear x => exact absurd (hi x) (by simp)
  | rxRdPay k =>
    by_cases hin : indexOperand k < s.fPlen.toNat
    · simp only [exec, execRxRdPay, if_pos hin] at h
      cases h
      exact ⟨rfl, rfl, _, rfl, fun _ _ _ => if_pos hin⟩
    · simp only [exec, execRxRdPay, if_neg hin] at h
      cases h
      exact ⟨rfl, rfl, _, rfl, fun _ _ _ => if_neg hin⟩
  | txPut b =>
    by_cases hroom : s.txPay.length < pMax s.cfg
    · simp only [exec, execTxPut, if_pos hroom] at h
      cases h
      exact ⟨rfl, rfl, _, rfl, fun _ _ _ => if_pos hroom⟩
    · simp only [exec, execTxPut, if_neg hroom] at h
      cases h
      exact ⟨rfl, rfl, _, rfl, fun _ _ _ => if_neg hroom⟩
  | _ =>
    cases h
    exact ⟨rfl, rfl, _, rfl, fun _ _ _ => rfl⟩

/-- Settles O57: after the push the command runs by its frame rule; before it, it leaves the push what it found. -/
theorem pushCommutesWithHostCommands : Obligations.PushCommutesWithHostCommands := by
  intro i b s t u v w hi hpush hthen hfirst hpushed
  obtain ⟨hbuf, hovf, a, hanswer, hframe⟩ := exec_withRx hi hfirst
  obtain ⟨answers, rfl⟩ := exec_rxPush_eq_withRx hpush
  obtain ⟨answers', rfl⟩ := exec_rxPush_eq_withRx hpushed
  rw [hframe] at hthen
  cases hthen
  rw [hbuf, hovf, exec_keeps_cfg hfirst]
  refine ⟨⟨rfl, rfl, rfl, rfl, rfl, rfl, rfl, rfl, rfl, rfl, rfl⟩, rfl, ?_⟩
  simp [State.rdata, State.withRx, hanswer]

end Sys2Proof.Machine
end

section
/-! PROOFS. The family of spec/30_encoding.md, the words: decoding and encoding (R53, R59, R62, R65), the ignored operand
(R61), the one answer per command (R60), and runs of presented commands (R68, R107). -/

namespace Sys2Proof.Machine

open Sys2Proof

/-! ### Decoding and encoding -/

/-- A word that decodes has the instruction's opcode and operand in its two fields. -/
theorem fields_of_decode_ok {w : Word} {i : Instr} (h : decode w = .ok i) :
    i.opcode = opcodeField w ∧ i.imm8 = imm8Field w := by
  unfold decode at h
  split at h <;> cases h
  all_goals exact ⟨Eq.symm ‹_›, rfl⟩

theorem decode_encode (i : Instr) : decode (encode i) = .ok i := by
  cases i <;> simp [decode, encode, Instr.opcode, Instr.imm8]

theorem encode_of_decode_ok {w : Word} {i : Instr} (h : decode w = .ok i) : encode i = w := by
  obtain ⟨hop, himm⟩ := fields_of_decode_ok h
  rw [encode, hop, himm, formatC_fields]

/-- Settles O38. -/
theorem decodeAndEncodeAgree : Obligations.DecodeAndEncodeAgree :=
  ⟨decode_encode, fun _ _ => encode_of_decode_ok⟩

/-- The illegal opcode ranges of R62. -/
def IllegalOpcode (op : Nat) : Prop :=
  (5 ≤ op ∧ op ≤ 0x0F) ∨ (0x19 ≤ op ∧ op ≤ 0x1F) ∨ (0x25 ≤ op ∧ op ≤ 0x2F) ∨ 0x32 ≤ op

theorem opcode_not_illegal (i : Instr) : ¬ IllegalOpcode i.opcode.toNat := by
  cases i <;> simp [IllegalOpcode, Instr.opcode]

/-- The words that are rejected: they are rejected as they stand, and their opcode is in the ranges of R62. -/
theorem illegalOpcode_of_decode_error {w : Word} {e : DecodeError} (h : decode w = .error e) :
    e = .illegalWord w ∧ IllegalOpcode (opcodeField w).toNat := by
  unfold decode at h
  split at h <;> cases h
  refine ⟨rfl, ?_⟩
  simp only [imp_false, ← BitVec.toNat_inj, BitVec.toNat_ofNat] at *
  unfold IllegalOpcode
  omega

/-- Settles O37: a word decodes or is rejected, a command's opcode is outside the ranges and a rejected one inside. -/
theorem illegalOpcodesAreExactlyThoseOfTheTable : Obligations.IllegalOpcodesAreExactlyThoseOfTheTable := by
  intro w
  cases hw : decode w with
  | ok i =>
    have hfields := fields_of_decode_ok hw
    refine ⟨fun hillegal => ?_, fun _ => ⟨i, rfl, hfields⟩⟩
    exact absurd (hfields.1 ▸ hillegal) (opcode_not_illegal i)
  | error e =>
    obtain ⟨rfl, hillegal⟩ := illegalOpcode_of_decode_error hw
    exact ⟨fun _ => rfl, absurd hillegal⟩

/-- Settles O39. -/
theorem sampleWordsDecode : Obligations.SampleWordsDecode := by
  unfold Obligations.SampleWordsDecode
  decide

/-! ### The ignored operand -/

/-- A command that ignores its operand is one of 256 that run alike, one for each operand byte. -/
theorem exec_of_ignoredOperand {i : Instr} {b : Byte} (h : i.ignoredOperand = some b) :
    ∃ mk : Byte → Instr, mk b = i ∧ (∀ x, (mk x).opcode = i.opcode ∧ (mk x).imm8 = x) ∧
      ∀ (x : Byte) (s : State), exec (mk x) s = exec i s := by
  cases i with
  | crcUpdate _ | crcCheck _ | rxPush _ | rxRdPay _ | txSetType _ | txPut _ | stClear _ => cases h
  | _ =>
    cases h
    exact ⟨_, rfl, fun _ => ⟨rfl, rfl⟩, fun _ _ => rfl⟩

/-- Settles O40: the other word is that of the same command with another operand byte. -/
theorem ignoredOperandHasNoEffect : Obligations.IgnoredOperandHasNoEffect := by
  intro w w' i b rest s hw hb hop
  obtain ⟨mk, -, hmk, hexec⟩ := exec_of_ignoredOperand hb
  have hw' : encode (mk (imm8Field w')) = w' := by
    rw [encode, (hmk _).1, (hmk _).2, (fields_of_decode_ok hw).1, ← hop, formatC_fields]
  have hdecode : decode w' = .ok (mk (imm8Field w')) := by rw [← decode_encode, hw']
  have hstep := stepRunsTheCommandPresented.1
  rw [hstep w' _ rest _ rfl hdecode, hstep w i rest _ rfl hw, hexec]

/-! ### The answer of a command -/

/-- `rdata` of a command in a state (R60): 0x00 but for the commands with a result. `exec_responses` ties it to `exec`. -/
def State.answer (i : Instr) (s : State) : Byte :=
  match i with
  | .crcRead _ => s.crc
  | .crcCheck b => flagByte (s.crc == b)
  | .rxPoll _ => flagByte (decodeBuf s.cfg s.rxbuf).isFrame
  | .rxCount _ => toByte s.rxbuf.length
  | .rxRdLen _ => s.fLen
  | .rxRdType _ => s.fType
  | .rxRdPlen _ => s.fPlen
  | .rxRdPay k => if indexOperand k < s.fPlen.toNat then s.payByte (indexOperand k) else 0x00#8
  | .rxRdCrc _ => s.fCrc
  | .txCount _ => toByte s.txPay.length
  | .stRead _ => s.st
  | _ => 0x00#8

/-- Every command answers once. -/
theorem exec_responses {i : Instr} {s t : State} (h : exec i s = .next t) :
    t.responses = s.responses ++ [s.answer i] := by
  cases i with
  | rxPush _ | txPut _ =>
    simp only [exec, execRxPush, execTxPut] at h
    split at h
    · cases h; simp [State.answer]
    · cases h; simp [State.answer]
  | rxPoll x =>
    simp only [exec, execRxPoll] at h
    cases hres : decodeBuf s.cfg s.rxbuf with
    | needMore rest =>
      rw [hres] at h
      cases h
      simp [State.answer, hres, DecodeResult.isFrame, flagByte]
    | frame f rest =>
      rw [hres] at h
      cases h
      simp [State.answer, hres, DecodeResult.isFrame, flagByte]
  | rxRdPay k =>
    simp only [exec, execRxRdPay] at h
    split at h
    · next hin => cases h; simp [State.answer, hin]
    · next hout => cases h; simp [State.answer, hout]
  | _ => cases h; rfl

/-- Settles O43: the ten commands without a result have the answer 0x00 in `State.answer`. -/
theorem oneResponsePerCommand : Obligations.OneResponsePerCommand := by
  intro s t h
  refine ⟨fun i ha => ?_, fun w ha => ?_⟩
  · rw [step_command ha] at h
    have hresponses := exec_responses h
    refine ⟨s.consume.answer i, hresponses, ?_⟩
    rintro x (rfl | rfl | rfl | rfl | rfl | rfl | rfl | rfl | rfl | rfl) <;> rfl
  · rw [step_illegal ha] at h
    cases h
    rfl

/-! ### Runs of presented commands -/

/-- The state after a command: what it writes, and its answer. -/
def State.after (i : Instr) (s : State) : State := (s.written i).respond (s.answer i)

theorem State.written_responses (i : Instr) (s : State) : (s.written i).responses = s.responses := by
  cases i <;> rfl

theorem exec_eq_after (i : Instr) (s : State) : exec i s = .next (s.after i) := by
  obtain ⟨v, hv⟩ := exec_eq_written i s
  have hanswer := exec_responses hv
  rw [State.respond_responses, State.written_responses] at hanswer
  obtain ⟨-, hv'⟩ := List.append_inj' hanswer rfl
  cases hv'
  exact hv

/-- The state after several commands, the first of the list first. -/
def State.afterAll (is : List Instr) (s : State) : State := is.foldl (fun s i => s.after i) s

@[simp] theorem State.afterAll_nil (s : State) : s.afterAll [] = s := rfl

@[simp] theorem State.afterAll_cons (i : Instr) (is : List Instr) (s : State) :
    s.afterAll (i :: is) = (s.after i).afterAll is := rfl

@[simp] theorem State.afterAll_append (is js : List Instr) (s : State) :
    s.afterAll (is ++ js) = (s.afterAll is).afterAll js := List.foldl_append

/-- The state with other events still to be presented. -/
def State.withPort (events : List PortEvent) (s : State) : State := { s with port := events }

/-- Commands neither read nor write what has still to be presented. -/
theorem State.after_withPort (i : Instr) (s : State) (events : List PortEvent) :
    (s.withPort events).after i = (s.after i).withPort events := by
  cases i <;> rfl

theorem State.afterAll_withPort (is : List Instr) (s : State) (events : List PortEvent) :
    (s.withPort events).afterAll is = (s.afterAll is).withPort events := by
  induction is generalizing s with
  | nil => rfl
  | cons i is ih => simp [State.after_withPort, ih]

@[simp] theorem State.withPort_withPort (s : State) (events events' : List PortEvent) :
    (s.withPort events).withPort events' = s.withPort events' := rfl

/-- A run of presented commands goes through their states and takes them off the ports. -/
theorem runFor_commands {is : List Instr} {events rest : List PortEvent} {s : State}
    (hevents : events.map acceptEvent = is.map .command) (hport : s.port = events ++ rest) :
    runFor is.length s = .next ((s.afterAll is).withPort rest) := by
  induction is generalizing s events with
  | nil =>
    obtain rfl : events = [] := by simpa using hevents
    obtain rfl : s.port = rest := hport
    rfl
  | cons i is ih =>
    obtain ⟨e, more, rfl, hi, hmore⟩ := List.map_eq_cons_iff.mp hevents
    have hstep : step s = .next ((s.after i).withPort (more ++ rest)) := by
      rw [step_eq_exec_of_port hport hi, exec_eq_after, ← State.after_withPort]
      rfl
    rw [List.length_cons, runFor_succ_of_next hstep, ih hmore rfl, State.afterAll_withPort, State.afterAll_cons,
      State.withPort_withPort]

theorem accept_hostWords (is : List Instr) : (hostWords (is.map encode)).map acceptEvent = is.map .command := by
  simp [hostWords, acceptWord_of_ok (decode_encode _)]

theorem accept_transportBytes (bytes : List Byte) :
    (transportBytes bytes).map acceptEvent = (bytes.map Instr.rxPush).map .command := by
  simp [transportBytes]

/-! ### The commands of `TX_FRAME` -/

/-- Staging of at most `P_MAX` bytes holds the first `P_MAX` of the bytes staged and put (R109, R110). -/
theorem afterAll_txPuts (bytes : List Byte) {s : State} (hs : s.txPay.length ≤ pMax s.cfg) :
    s.afterAll (bytes.map .txPut) = { s with
      txPay := (s.txPay ++ bytes).take (pMax s.cfg)
      txovf := s.txovf || decide (pMax s.cfg < s.txPay.length + bytes.length)
      responses := s.responses ++ List.replicate bytes.length 0x00#8 } := by
  induction bytes generalizing s with
  | nil => simp [List.take_of_length_le hs, hs.not_gt]
  | cons b bytes ih =>
    rw [List.map_cons, State.afterAll_cons]
    rcases hs.lt_or_eq with hroom | hfull
    · have hput : s.after (.txPut b) = (s.setTxPay (s.txPay ++ [b])).respond 0x00#8 := by
        simp [State.after, State.written, State.answer, hroom, hroom.not_ge, State.setTxPay]
      rw [hput, ih (by simpa using hroom)]
      simp [State.setTxPay, State.respond, List.replicate_succ, Nat.add_assoc, Nat.add_comm 1]
    · have hput : s.after (.txPut b) = (s.setSticky .txovf).respond 0x00#8 := by
        simp [State.after, State.written, State.answer, hfull, State.setSticky]
      rw [hput, ih (by simpa using hs)]
      simp [State.setSticky, State.respond, List.replicate_succ, ← hfull]

/-- What `TX_FRAME` does: it sends the first `P_MAX` bytes, and records a cut (R68, R110). -/
theorem afterAll_txFrame (t : Byte) (bytes : List Byte) (s : State) :
    s.afterAll (SourceLine.txFrame t bytes).commands = { s with
      txType := t, txPay := bytes.take (pMax s.cfg)
      txovf := s.txovf || decide (pMax s.cfg < bytes.length)
      txLog := s.txLog ++ [encodeFrame s.cfg t (bytes.take (pMax s.cfg))]
      responses := s.responses ++ List.replicate (bytes.length + 3) 0x00#8 } := by
  have hstaged : (s.after (.txClear 0x00#8)).after (.txSetType t) = { s with
      txType := t, txPay := [], responses := s.responses ++ [0x00#8, 0x00#8] } := by
    simp [State.after, State.written, State.answer, State.setTxPay, State.setTxType, State.respond]
  simp only [SourceLine.commands, List.cons_append, State.afterAll_cons, State.afterAll_append, State.afterAll_nil, hstaged]
  rw [afterAll_txPuts bytes (Nat.zero_le _)]
  simp [State.after, State.written, State.answer, State.emitTx, State.respond, List.replicate_succ,
    ← List.replicate_succ']

theorem length_txFrame_commands (t : Byte) (bytes : List Byte) :
    (SourceLine.txFrame t bytes).commands.length = bytes.length + 3 := by
  simp [SourceLine.commands]

/-- Settles O31: the run goes through the commands of `TX_FRAME`. -/
theorem txFrameSendsAtMostPMaxBytes : Obligations.TxFrameSendsAtMostPMaxBytes := by
  intro t bytes rest s hport
  rw [← length_txFrame_commands t bytes, runFor_commands (accept_hostWords _) hport, afterAll_txFrame,
    length_txFrame_commands]
  rfl

/-! ### A frame looped back -/

/-- A buffer with room takes every byte pushed (R86). -/
theorem afterAll_rxPushes (bytes : List Byte) {s : State} (hs : s.rxbuf.length + bytes.length ≤ s.cfg.rxCap) :
    s.afterAll (bytes.map .rxPush) = { s with
      rxbuf := s.rxbuf ++ bytes, responses := s.responses ++ List.replicate bytes.length 0x00#8 } := by
  induction bytes generalizing s with
  | nil => simp
  | cons b bytes ih =>
    rw [List.length_cons] at hs
    have hroom : s.rxbuf.length < s.cfg.rxCap := by omega
    have hpush : s.after (.rxPush b) = (s.setRxbuf (s.rxbuf ++ [b])).respond 0x00#8 := by
      simp [State.after, State.written, State.answer, hroom, hroom.not_ge, State.setRxbuf]
    rw [List.map_cons, State.afterAll_cons, hpush, ih (by simp; omega)]
    simp [State.setRxbuf, State.respond, List.replicate_succ]

/-- The decoder takes an encoded frame off the head of the buffer as it was encoded (R96). -/
theorem decodeBuf_encodeFrame {c : Config} (hc : c.Legal) (t : Byte) {pay : List Byte} (hpay : pay.length ≤ pMax c)
    (more : List Byte) : decodeBuf c (encodeFrame c t pay ++ more) = .frame (frameOf c t pay) more := by
  obtain ⟨hadj, -, hmax, -⟩ := hc
  have hlen : (toByte (pay.length + c.lenAdj)).toNat = pay.length + c.lenAdj := by
    unfold pMax at hpay
    simp only [toByte, BitVec.toNat_ofNat]
    omega
  have hinrange : lengthFailure c (toByte (pay.length + c.lenAdj)) = false := by
    rw [lengthFailure_eq_false, hlen]
    omega
  have hjudge := judge_complete c (toByte (pay.length + c.lenAdj)) t (crc8 (t :: pay)) pay more hinrange (by omega)
  rw [if_pos rfl] at hjudge
  have hbuf : encodeFrame c t pay ++ more =
      c.sync :: toByte (pay.length + c.lenAdj) :: t :: (pay ++ crc8 (t :: pay) :: more) := by simp [encodeFrame]
  rw [hbuf, decodeBuf_of_found _ _ _ _ _ hjudge]
  simp [frameOf]

/-- A poll that finds a frame (R89). -/
theorem after_rxPoll_frame {s : State} {f : Frame} {rest : List Byte} (h : decodeBuf s.cfg s.rxbuf = .frame f rest)
    (x : Byte) : s.after (.rxPoll x) = (((s.setRxbuf rest).setFrame f).setFv true).respond 0x01#8 := by
  simp [State.after, State.written, State.answer, h, DecodeResult.rest, DecodeResult.frameOr, DecodeResult.isFrame,
    flagByte]

/-- The commands by which a frame is staged and sent, pushed back byte by byte, and polled. -/
def loopbackCommands (c : Config) (t x : Byte) (bytes : List Byte) : List Instr :=
  (SourceLine.txFrame t bytes).commands ++ (encodeFrame c t bytes).map .rxPush ++ [.rxPoll x]

theorem length_loopbackCommands (c : Config) (t x : Byte) (bytes : List Byte) :
    (loopbackCommands c t x bytes).length = 2 * bytes.length + 8 := by
  simp [loopbackCommands, length_txFrame_commands, encodeFrame_length]
  omega

theorem accept_loopback (c : Config) (t x : Byte) (bytes : List Byte) :
    (hostWords (SourceLine.txFrame t bytes).words ++ transportBytes (encodeFrame c t bytes) ++
      [PortEvent.host (encode (.rxPoll x))]).map acceptEvent = (loopbackCommands c t x bytes).map .command := by
  have hwords := accept_hostWords (SourceLine.txFrame t bytes).commands
  have hpoll := acceptWord_of_ok (decode_encode (.rxPoll x))
  simp [loopbackCommands, SourceLine.words, hwords, accept_transportBytes, hpoll]

/-- The sending leaves the receive path alone, the pushes fill the buffer with the frame's bytes, and the poll takes them
(R96). -/
theorem afterAll_loopback {s : State} (hs : s.cfg.Legal) (t x : Byte) {bytes : List Byte}
    (hbytes : bytes.length ≤ pMax s.cfg) (hrx : s.rxbuf = []) :
    ∃ answers, s.afterAll (loopbackCommands s.cfg t x bytes) =
      (({ s with txType := t, txPay := bytes, txLog := s.txLog ++ [encodeFrame s.cfg t bytes], responses := answers
        }.setFrame (frameOf s.cfg t bytes)).setFv true).respond 0x01#8 := by
  have hroom : (encodeFrame s.cfg t bytes).length ≤ s.cfg.rxCap := by
    obtain ⟨-, hmin, -, hcap, -⟩ := hs
    rw [encodeFrame_length]
    unfold pMax at hbytes
    omega
  have hdecode := decodeBuf_encodeFrame hs t hbytes []
  rw [List.append_nil] at hdecode
  rw [loopbackCommands, State.afterAll_append, State.afterAll_append, afterAll_txFrame, List.take_of_length_le hbytes,
    afterAll_rxPushes _ (by simpa [hrx] using hroom), State.afterAll_cons, State.afterAll_nil,
    after_rxPoll_frame (by simpa [hrx] using hdecode)]
  exact ⟨_, by simp [hrx, hbytes.not_gt, State.setRxbuf]; rfl⟩

/-- Settles O58: the run goes through `loopbackCommands`. -/
theorem loopbackDeliversTheSentFrame : Obligations.LoopbackDeliversTheSentFrame := by
  intro t x bytes rest s hlegal hbytes hrx hport
  rw [List.append_cons] at hport
  obtain ⟨answers, hafter⟩ := afterAll_loopback hlegal t x hbytes hrx
  rw [← length_loopbackCommands s.cfg t x bytes, runFor_commands (accept_loopback s.cfg t x bytes) hport, hafter]
  exact ⟨_, rfl, rfl, rfl, by simp [State.rdata, State.withPort], hrx, rfl, rfl, rfl, rfl⟩

end Sys2Proof.Machine
end

section
/-! PROOFS. The family of spec/30_encoding.md, the assembler: operands and lines that are refused or accepted (R61, R66,
R67), and listings (R69). -/

namespace Sys2Proof.Machine

open Sys2Proof

/-! ### Hex digits -/

theorem digitValue_hexDigit {d : Nat} (h : d < 16) : digitValue (hexDigit d) = some d := by
  have hall : ∀ d : Fin 16, digitValue (hexDigit d) = some d.val := by decide
  exact hall ⟨d, h⟩

/-- A hex digit that is written adds its value to the number read. -/
theorem digitsValue_hexDigit {d : Nat} (h : d < 16) (acc : Nat) (rest : List Char) :
    digitsValue 16 acc (hexDigit d :: rest) = digitsValue 16 (acc * 16 + d) rest := by
  simp [digitsValue, digitValue_hexDigit h, h]

/-- The four hex digits of a number below 65536 read back as that number. -/
theorem digitsValue_fourHexDigits {n : Nat} (hn : n < 65536) :
    digitsValue 16 0 [hexDigit (n / 4096), hexDigit (n / 256 % 16), hexDigit (n / 16 % 16), hexDigit (n % 16)] =
      some n := by
  have hmod (m : Nat) : m % 16 < 16 := Nat.mod_lt m (by decide)
  have htop : n / 4096 < 16 := by omega
  rw [digitsValue_hexDigit htop, digitsValue_hexDigit (hmod _), digitsValue_hexDigit (hmod _),
    digitsValue_hexDigit (hmod _), digitsValue]
  congr 1
  omega

/-- Settles O60: a listing is the word's four hex digits behind `0x`. -/
theorem listingsReadBack : Obligations.ListingsReadBack := by
  intro w
  simp [listing, parseWord, digitsValue_fourHexDigits w.isLt]

/-- A spelling of an operand byte: `0x` and two hex digits (R66). -/
def hexByte (b : Byte) : List Char := ['0', 'x', hexDigit (b.toNat / 16), hexDigit (b.toNat % 16)]

theorem parseNumber_hexByte (b : Byte) : parseNumber (hexByte b) = some b.toNat := by
  have hb : b.toNat < 256 := b.isLt
  have h1 : b.toNat / 16 < 16 := by omega
  have h2 : b.toNat % 16 < 16 := by omega
  rw [hexByte, parseNumber, digitsValue_hexDigit h1, digitsValue_hexDigit h2, digitsValue]
  congr 1
  omega

/-! ### Operands -/

theorem parseByte_tooLarge {s : List Char} {n : Nat} (hs : parseNumber s = some n) (hn : 255 < n) :
    parseByte s = .error .operandOutOfRange := by
  simp [parseByte, hs, show ¬ n < 256 by omega]

theorem parseByte_byte {s : List Char} {b : Byte} (hs : parseNumber s = some b.toNat) : parseByte s = .ok b := by
  simp [parseByte, hs, b.isLt]

theorem parseNumber_of_parseByte {s : List Char} {b : Byte} (h : parseByte s = .ok b) :
    parseNumber s = some b.toNat := by
  unfold parseByte at h
  split at h
  · cases h
  · next n hn =>
    split at h
    · next hlt =>
      cases h
      rw [hn, BitVec.toNat_ofNat, Nat.mod_eq_of_lt hlt]
    · cases h

theorem parseBytes_cons_ok {s : List Char} {rest : List (List Char)} {bytes : List Byte}
    (h : parseBytes (s :: rest) = .ok bytes) :
    ∃ b bs, parseByte s = .ok b ∧ parseBytes rest = .ok bs ∧ bytes = b :: bs := by
  unfold parseBytes at h
  split at h
  · next b bs hb hbs => cases h; exact ⟨b, bs, hb, hbs, rfl⟩
  · cases h
  · cases h

theorem parseNumbers_of_parseBytes {operands : List (List Char)} {bytes : List Byte}
    (h : parseBytes operands = .ok bytes) : operands.map parseNumber = bytes.map (fun b => some b.toNat) := by
  induction operands generalizing bytes with
  | nil => cases h; rfl
  | cons s rest ih =>
    obtain ⟨b, bs, hb, hbs, rfl⟩ := parseBytes_cons_ok h
    rw [List.map_cons, List.map_cons, parseNumber_of_parseByte hb, ih hbs]

/-- Every number in an accepted list of operands is a byte's (R67). -/
theorem number_le_of_parseBytes {operands : List (List Char)} {bytes : List Byte} {s : List Char} {n : Nat}
    (h : parseBytes operands = .ok bytes) (hs : s ∈ operands) (hn : parseNumber s = some n) : n ≤ 255 := by
  have hmem : parseNumber s ∈ operands.map parseNumber := List.mem_map_of_mem hs
  rw [parseNumbers_of_parseBytes h, hn] at hmem
  obtain ⟨b, -, hb⟩ := List.mem_map.mp hmem
  have := b.isLt
  cases hb
  omega

/-! ### Mnemonics -/

/-- A mnemonic's command ignores its operand, whatever it is, or uses it (R59). -/
theorem mnemonics_ignoredOperand : ∀ row ∈ mnemonics,
    (∀ b, (row.2 b).ignoredOperand = some b) ∨ (∀ b, (row.2 b).ignoredOperand = none) := by
  simp [mnemonics, Instr.ignoredOperand]

/-- Every command has a mnemonic (R59). -/
theorem exists_mnemonic (i : Instr) : ∃ row ∈ mnemonics, row.2 i.imm8 = i := by
  cases i <;> simp [mnemonics, Instr.imm8]

theorem wellFormed_of_used {i : Instr} (h : i.ignoredOperand = none) : i.wellFormed = true := by
  simp [Instr.wellFormed, h]

/-- A mnemonic makes a command of the form assemblers emit, of 0x00 and of every operand the command uses. -/
theorem mnemonics_wellFormed {row : String × (Byte → Instr)} (hrow : row ∈ mnemonics) :
    (row.2 0x00#8).wellFormed = true ∧ ((row.2 0x00#8).ignoredOperand = none → ∀ b, (row.2 b).wellFormed = true) := by
  rcases mnemonics_ignoredOperand row hrow with hignored | hused
  · exact ⟨by simp [Instr.wellFormed, hignored], by simp [hignored]⟩
  · exact ⟨wellFormed_of_used (hused _), fun _ b => wellFormed_of_used (hused b)⟩

/-- The expansions of R68 hold 0x00 in an ignored operand. -/
theorem pseudo_wellFormed {l : SourceLine} (hl : ∀ i, l ≠ .command i) : ∀ i ∈ l.commands, i.wellFormed = true := by
  cases l with
  | command i => exact absurd rfl (hl i)
  | _ => simp [SourceLine.commands, or_imp, forall_and, Instr.wellFormed, Instr.ignoredOperand]

/-! ### Lines by their name and operands -/

theorem assembleCommand_unexpected {mk : Byte → Instr} {operands : List (List Char)}
    (hmk : (mk 0x00#8).ignoredOperand.isSome = true) (hne : operands ≠ []) :
    assembleCommand mk operands = .error .unexpectedOperand := by
  obtain ⟨b, hb⟩ := Option.isSome_iff_exists.mp hmk
  obtain ⟨s, rest, rfl⟩ := List.exists_cons_of_ne_nil hne
  simp [assembleCommand, hb]

theorem assembleCommand_missing {mk : Byte → Instr} (hmk : (mk 0x00#8).ignoredOperand = none) :
    assembleCommand mk [] = .error .missingOperand := by
  simp [assembleCommand, hmk]

theorem assembleCommand_ignored {mk : Byte → Instr} (hmk : (mk 0x00#8).ignoredOperand.isSome = true) :
    assembleCommand mk [] = .ok (.command (mk 0x00#8)) := by
  obtain ⟨b, hb⟩ := Option.isSome_iff_exists.mp hmk
  simp [assembleCommand, hb]

theorem assembleCommand_one {mk : Byte → Instr} (hmk : (mk 0x00#8).ignoredOperand = none) (s : List Char) :
    assembleCommand mk [s] = (parseByte s).map fun b => .command (mk b) := by
  cases hs : parseByte s <;> simp [assembleCommand, hmk, hs, Except.map]

/-- What an accepted line that is no `.word` stands for: its operands are bytes, and its commands have 0x00 in an ignored
operand. -/
def Canonical (operands : List (List Char)) (l : SourceLine) : Prop :=
  (∃ bytes, parseBytes operands = .ok bytes) ∧ ∀ i ∈ l.commands, i.wellFormed = true

theorem assembleCommand_canonical {row : String × (Byte → Instr)} (hrow : row ∈ mnemonics)
    {operands : List (List Char)} {l : SourceLine} (h : assembleCommand row.2 operands = .ok l) :
    Canonical operands l := by
  obtain ⟨hzero, hused⟩ := mnemonics_wellFormed hrow
  unfold assembleCommand at h
  split at h
  · cases h
    exact ⟨⟨[], rfl⟩, by simpa [SourceLine.commands] using hzero⟩
  · cases h
  · cases h
  · next s hnone =>
    split at h
    · next b hb =>
      cases h
      exact ⟨⟨[b], by simp [parseBytes, hb]⟩, by simpa [SourceLine.commands] using hused hnone b⟩
    · cases h
  · cases h

theorem assembleBytes_canonical {mk : List Byte → SourceLine}
    (hmk : ∀ bytes i, mk bytes ≠ .command i)
    {operands : List (List Char)} {l : SourceLine} (h : assembleBytes mk operands = .ok l) : Canonical operands l := by
  unfold assembleBytes at h
  split at h
  · next bytes hbytes =>
    cases h
    exact ⟨⟨bytes, hbytes⟩, pseudo_wellFormed (hmk bytes)⟩
  · cases h

theorem assembleTxFrame_canonical {operands : List (List Char)} {l : SourceLine}
    (h : assembleTxFrame operands = .ok l) : Canonical operands l := by
  unfold assembleTxFrame at h
  split at h
  · next t bytes hbytes =>
    cases h
    exact ⟨⟨t :: bytes, hbytes⟩, pseudo_wellFormed (by simp)⟩
  · cases h
  · cases h

theorem assembleClearAll_canonical {operands : List (List Char)} {l : SourceLine}
    (h : assembleClearAll operands = .ok l) : Canonical operands l := by
  unfold assembleClearAll at h
  split at h
  · cases h
    exact ⟨⟨[], rfl⟩, pseudo_wellFormed (by simp)⟩
  · cases h

theorem assembleRaw_ok {operands : List (List Char)} {l : SourceLine} (h : assembleRaw operands = .ok l) :
    ∃ w, l = .rawWord w := by
  unfold assembleRaw at h
  split at h
  · cases h
  · split at h
    · next w _ => cases h; exact ⟨w, rfl⟩
    · cases h
  · cases h

/-- What is accepted, name by name: a `.word`, or a line in the form assemblers emit (R61, R66, R68). -/
theorem assembleNamed_ok {name : List Char} {operands : List (List Char)} {l : SourceLine}
    (h : assembleNamed name operands = .ok l) :
    (name = ".word".toList ∧ ∃ w, l = .rawWord w) ∨ Canonical operands l := by
  unfold assembleNamed at h
  split at h
  · next row hrow => exact .inr (assembleCommand_canonical (List.mem_of_find?_eq_some hrow) h)
  · split_ifs at h with hword
    · exact .inl ⟨hword, assembleRaw_ok h⟩
    · exact .inr (assembleBytes_canonical (by simp) h)
    · exact .inr (assembleBytes_canonical (by simp) h)
    · exact .inr (assembleBytes_canonical (by simp) h)
    · exact .inr (assembleTxFrame_canonical h)
    · exact .inr (assembleClearAll_canonical h)

/-- A number above 255 is refused under every name but `.word` (R67). -/
theorem assembleNamed_tooLarge {name : List Char} {operands : List (List Char)} {s : List Char} {n : Nat}
    (hname : name ≠ ".word".toList) (hs : s ∈ operands) (hn : parseNumber s = some n) (hlarge : 255 < n) :
    ∃ e, assembleNamed name operands = .error e := by
  cases h : assembleNamed name operands with
  | error e => exact ⟨e, rfl⟩
  | ok l =>
    obtain ⟨hword, -⟩ | ⟨⟨bytes, hbytes⟩, -⟩ := assembleNamed_ok h
    · exact absurd hword hname
    · have := number_le_of_parseBytes hbytes hs hn
      omega

/-! ### Lines as they are written -/

/-- A line of a mnemonic and one number. -/
theorem assembleLine_mnemonic_number {row : String × (Byte → Instr)} (hrow : row ∈ mnemonics) {s : List Char} {n : Nat}
    (hs : parseNumber s = some n) : assembleLine (row.1.toList ++ ' ' :: s) = assembleCommand row.2 [s] := by
  obtain ⟨hne, hplain⟩ := mnemonics_plain hrow
  rw [assembleLine_number hne hplain hs, assembleNamed_mnemonic hrow]

/-- A line of a mnemonic alone. -/
theorem assembleLine_mnemonic {row : String × (Byte → Instr)} (hrow : row ∈ mnemonics) :
    assembleLine row.1.toList = assembleCommand row.2 [] := by
  obtain ⟨hne, hplain⟩ := mnemonics_plain hrow
  rw [assembleLine_name hne hplain, assembleNamed_mnemonic hrow]

/-- A written operand of a command that uses one is refused above 255 and taken at its value up to there (R67). -/
theorem assembleLine_used {row : String × (Byte → Instr)} (hrow : row ∈ mnemonics) {s : List Char} {n : Nat}
    (hs : parseNumber s = some n) (hused : (row.2 0x00#8).ignoredOperand = none) :
    (255 < n → assembleLine (row.1.toList ++ ' ' :: s) = .error .operandOutOfRange) ∧
    ∀ b : Byte, b.toNat = n → assembleLine (row.1.toList ++ ' ' :: s) = .ok (.command (row.2 b)) := by
  rw [assembleLine_mnemonic_number hrow hs, assembleCommand_one hused]
  constructor
  · intro hlarge
    rw [parseByte_tooLarge hs hlarge]
    rfl
  · rintro b rfl
    rw [parseByte_byte hs]
    rfl

theorem assembleLine_wellFormed {line : List Char} {l : SourceLine} (h : assembleLine line = .ok l)
    (hraw : ∀ w : Word, l ≠ .rawWord w) : ∀ i ∈ l.commands, i.wellFormed = true := by
  simp only [assembleLine] at h
  split at h
  · cases h
    exact pseudo_wellFormed (by simp)
  · obtain ⟨-, w, rfl⟩ | ⟨-, hwf⟩ := assembleNamed_ok h
    · exact absurd rfl (hraw w)
    · exact hwf

theorem words_eq_commands {l : SourceLine} (hraw : ∀ w : Word, l ≠ .rawWord w) : l.words = l.commands.map encode := by
  cases l with
  | rawWord w => exact absurd rfl (hraw w)
  | _ => rfl

/-- Every command in the form assemblers emit can be written: by its mnemonic, and with its operand in hex where it uses
one. -/
theorem exists_line {i : Instr} (h : i.wellFormed = true) : ∃ line : List Char, assembleLine line = .ok (.command i) := by
  obtain ⟨row, hrow, hi⟩ := exists_mnemonic i
  rcases mnemonics_ignoredOperand row hrow with hignored | hused
  · have himm : i.imm8 = 0x00#8 := by
      rw [← hi, Instr.wellFormed, hignored] at h
      simpa using h
    refine ⟨row.1.toList, ?_⟩
    rw [assembleLine_mnemonic hrow, assembleCommand_ignored (by simp [hignored]), ← himm, hi]
  · refine ⟨row.1.toList ++ ' ' :: hexByte i.imm8, ?_⟩
    rw [(assembleLine_used hrow (parseNumber_hexByte i.imm8) (hused _)).2 i.imm8 rfl, hi]

/-- A refused line refuses the program (log entry 8). -/
theorem assemble_refuses {lines : List (List Char)} {line : List Char} {e : AsmError} (hmem : line ∈ lines)
    (h : assembleLine line = .error e) : ∃ e', assemble lines = .error e' := by
  induction lines with
  | nil => cases hmem
  | cons first rest ih =>
    unfold assemble
    rcases List.mem_cons.mp hmem with rfl | hrest
    · exact ⟨e, by rw [h]⟩
    · obtain ⟨e', he'⟩ := ih hrest
      cases hfirst : assembleLine first with
      | ok l => exact ⟨e', by rw [he']⟩
      | error e₁ => exact ⟨e₁, rfl⟩

/-- Settles O59, clause by clause: each is a lemma above of one stage of the assembler. -/
theorem assemblerRefusesWrongOperands : Obligations.AssemblerRefusesWrongOperands := by
  refine ⟨fun row operands hrow => ?_, fun _ _ _ _ => assembleNamed_tooLarge, fun _ _ => parseByte_tooLarge,
    fun _ _ => parseNumber_of_parseByte, fun _ _ => parseNumbers_of_parseBytes, fun row s n hrow hs => ?_,
    fun row hrow hused => ?_, fun _ _ h hraw => ⟨words_eq_commands hraw, assembleLine_wellFormed h hraw⟩,
    fun _ => exists_line, fun _ _ _ => assemble_refuses⟩
  · rw [assembleNamed_mnemonic hrow, assembleNamed_mnemonic hrow]
    exact ⟨assembleCommand_unexpected, assembleCommand_missing⟩
  · refine ⟨fun hignored => ?_, fun hused => (assembleLine_used hrow hs hused).1,
      fun hused => (assembleLine_used hrow hs hused).2⟩
    rw [assembleLine_mnemonic_number hrow hs, assembleCommand_unexpected hignored (List.cons_ne_nil _ _)]
  · rw [assembleLine_mnemonic hrow, assembleCommand_missing hused]

end Sys2Proof.Machine
end

section
/-! PROOFS. The family of spec/40_crc.md: the CRC step and the CRC of a sequence are linear (R75, R82), the four CRC commands
(R76, R77, R79, R80), the accumulator over a run (R81), which errors the check detects (R83), and frame traffic beside the
CRC register (R78). -/

namespace Sys2Proof.Machine

open Sys2Proof

/-! ### Linearity

Bytes stand for polynomials over GF(2) of degree below 8, and `crc8Shift` multiplies by `x` modulo `G(x)`. -/

theorem crc8Shift_eq_xor (c : Byte) : crc8Shift c = c <<< 1 ^^^ if c.getLsbD 7 then poly else 0x00#8 := by
  unfold crc8Shift
  split <;> simp

theorem crc8Shift_xor (a b : Byte) : crc8Shift (a ^^^ b) = crc8Shift a ^^^ crc8Shift b := by
  have hpoly : (if (a ^^^ b).getLsbD 7 then poly else 0x00#8) =
      (if a.getLsbD 7 then poly else 0x00#8) ^^^ if b.getLsbD 7 then poly else 0x00#8 := by
    rw [BitVec.getLsbD_xor]
    cases a.getLsbD 7 <;> cases b.getLsbD 7 <;> simp
  rw [crc8Shift_eq_xor, crc8Shift_eq_xor, crc8Shift_eq_xor, hpoly, BitVec.shiftLeft_xor_distrib]
  ac_rfl

/-- `G(x)` has the term 1, so `x` is invertible modulo it. -/
theorem crc8Shift_eq_zero : ∀ c : Byte, crc8Shift c = 0x00#8 ↔ c = 0x00#8 := by decide

theorem crc8Shifts_xor (k : Nat) (a b : Byte) : crc8Shifts k (a ^^^ b) = crc8Shifts k a ^^^ crc8Shifts k b := by
  induction k generalizing a b with
  | zero => rfl
  | succ k ih => simp only [crc8Shifts, crc8Shift_xor, ih]

theorem crc8Shifts_eq_zero (k : Nat) (c : Byte) : crc8Shifts k c = 0x00#8 ↔ c = 0x00#8 := by
  induction k generalizing c with
  | zero => rfl
  | succ k ih => rw [crc8Shifts, ih, crc8Shift_eq_zero]

@[simp] theorem crc8Shifts_zero_byte (k : Nat) : crc8Shifts k 0x00#8 = 0x00#8 := (crc8Shifts_eq_zero k _).mpr rfl

theorem crc8Step_eq_table (c b : Byte) : crc8Step c b = crc8Step 0x00#8 (c ^^^ b) := by
  simp [crc8Step]

theorem crc8Step_xor (c d a b : Byte) : crc8Step (c ^^^ d) (a ^^^ b) = crc8Step c a ^^^ crc8Step d b := by
  rw [crc8Step, crc8Step, crc8Step, ← crc8Shifts_xor]
  congr 1
  ac_rfl

theorem crc8Step_eq_zero (c b : Byte) : crc8Step c b = 0x00#8 ↔ c = b := by
  rw [crc8Step, crc8Shifts_eq_zero, BitVec.xor_eq_zero_iff]

/-- Settles O5: the table index is `c ^ b`, and the table is linear as its shifts are. -/
theorem crcStepIsALinearTable : Obligations.CrcStepIsALinearTable := by
  refine ⟨crc8Step_eq_table, fun a b => ?_, by decide, by decide, by decide⟩
  exact crc8Step_xor 0x00#8 0x00#8 a b

theorem crc8From_xorBytes {a b : List Byte} (h : a.length = b.length) (c d : Byte) :
    crc8From (c ^^^ d) (xorBytes a b) = crc8From c a ^^^ crc8From d b := by
  induction a generalizing b c d with
  | nil =>
    obtain rfl : b = [] := List.length_eq_zero_iff.mp h.symm
    rfl
  | cons x a ih =>
    obtain ⟨y, b, rfl⟩ := List.exists_cons_of_length_eq_add_one h.symm
    rw [crc8From_cons, crc8From_cons, ← ih (Nat.succ.inj h), ← crc8Step_xor]
    rfl

theorem crc8_xorBytes {a b : List Byte} (h : a.length = b.length) : crc8 (xorBytes a b) = crc8 a ^^^ crc8 b :=
  crc8From_xorBytes h crcStart crcStart

/-- Settles O7: a zero byte keeps the remainder 0x00. -/
theorem crcIsLinear : Obligations.CrcIsLinear := by
  refine ⟨fun a b => crc8_xorBytes, fun n => ?_⟩
  induction n with
  | zero => rfl
  | succ n ih => rw [List.replicate_succ', crc8_concat, ih, crc8Step_eq_zero]

/-- A sequence followed by its own CRC has the CRC 0x00 (R81). -/
theorem crc8_append_crc8 (s : List Byte) : crc8 (s ++ [crc8 s]) = 0x00#8 := by
  rw [crc8_concat, crc8Step_eq_zero]

/-! ### The four commands -/

/-- Settles O1. -/
theorem crcInitClearsTheAccumulator : Obligations.CrcInitClearsTheAccumulator :=
  ⟨fun x => decode_encode (.crcInit x), fun _ _ => rfl⟩

/-- Settles O2. -/
theorem crcUpdateFoldsOneByte : Obligations.CrcUpdateFoldsOneByte :=
  ⟨fun b => decode_encode (.crcUpdate b), fun _ _ => rfl, fun c => (crc8Step_eq_zero c c).mpr rfl⟩

/-- Settles O3. -/
theorem crcReadAnswersTheAccumulator : Obligations.CrcReadAnswersTheAccumulator :=
  ⟨fun x => decode_encode (.crcRead x), fun _ _ => rfl⟩

/-- What `CRC_CHECK` writes and answers, with the comparison as a Boolean. -/
theorem exec_crcCheck (b : Byte) (s : State) :
    exec (.crcCheck b) s = .next ((s.setMatch (s.crc == b)).respond (flagByte (s.crc == b))) := rfl

/-- Settles O4. -/
theorem crcCheckComparesAndWritesMatch : Obligations.CrcCheckComparesAndWritesMatch := by
  refine ⟨fun b => decode_encode (.crcCheck b), fun b s => ⟨fun heq => ?_, fun hne => ?_⟩⟩
  · rw [exec_crcCheck, beq_iff_eq.mpr heq]
    rfl
  · rw [exec_crcCheck, beq_eq_false_iff_ne.mpr hne]
    rfl

/-! ### The accumulator over a run -/

/-- A step that does not restart the CRC folds in the byte it brings, if it brings one. -/
theorem step_crc {s t : State} (h : step s = .next t) (hkeeps : s.keepsCrc = true) :
    t.crc = crc8From s.crc s.folds := by
  obtain ⟨x, ha, -⟩ | ⟨b, ha, hcrc⟩ | ⟨o, ha, -⟩ | ⟨hcrc, -, hnofold, -⟩ := onlyCrcCommandsWriteCrc s t h
  · simp [State.keepsCrc, ha] at hkeeps
  · simp [State.folds, ha, hcrc]
  · simp [State.keepsCrc, ha] at hkeeps
  · have hfolds : s.folds = [] := by
      unfold State.folds
      split
      · exact absurd ‹_› (hnofold _)
      · rfl
    rw [hcrc, hfolds, crc8From_nil]

/-- R81 over a run, from any value of `CRC`. -/
theorem runFor_crc {n : Nat} {s t : State} (hrun : runFor n s = .next t) (hkeeps : always State.keepsCrc n s = true) :
    t.crc = crc8From s.crc (collect State.folds n s) := by
  induction n generalizing s with
  | zero => cases hrun; rfl
  | succ n ih =>
    obtain ⟨u, hstep, hrun⟩ := runFor_succ_eq_next.mp hrun
    rw [always_succ_of_next _ hstep, Bool.and_eq_true] at hkeeps
    obtain ⟨hfirst, hrest⟩ := hkeeps
    rw [collect_succ_of_next _ hstep, crc8From_append, ← step_crc hstep hfirst]
    exact ih hrun hrest

/-- Settles O8: `CRC_INIT` leaves the start value of `crc8`, from which the run folds. -/
theorem accumulatorComputesCrc8 : Obligations.AccumulatorComputesCrc8 := by
  refine ⟨fun x y s s₀ t n hinit hrun hkeeps => ?_, crc8_append_crc8⟩
  cases hinit
  have hcrc := runFor_crc hrun hkeeps
  rw [crcReadAnswersTheAccumulator.2, hcrc]
  rfl

/-! ### Frame traffic beside the CRC register -/

/-- The state with other values of `CRC` and `MATCH`. -/
def State.withCrc (c : Byte) (m : Bool) (s : State) : State := { s with crc := c, matchFlag := m }

/-- Receive and transmit commands keep `CRC` and `MATCH`, and do the same with other values of them (R78). -/
theorem after_of_frameTraffic {i : Instr} (hi : 0x10 ≤ i.opcode.toNat ∧ i.opcode.toNat ≤ 0x24) (s : State) :
    (s.after i).crc = s.crc ∧ (s.after i).matchFlag = s.matchFlag ∧
      ∀ c m, (s.withCrc c m).after i = (s.after i).withCrc c m := by
  cases i with
  | nop _ | crcInit _ | crcUpdate _ | crcRead _ | crcCheck _ | stRead _ | stClear _ => simp [Instr.opcode] at hi
  | _ => exact ⟨rfl, rfl, fun _ _ => rfl⟩

/-- Settles O56. -/
theorem frameTrafficIgnoresTheCrcRegister : Obligations.FrameTrafficIgnoresTheCrcRegister := by
  intro i s t c m hi h
  obtain rfl : s.after i = t := by simpa [exec_eq_after] using h
  obtain ⟨hcrc, hmatch, hother⟩ := after_of_frameTraffic hi s
  exact ⟨hcrc, hmatch, by rw [← State.withCrc, exec_eq_after, hother]; rfl⟩

/-! ### The CRC bit by bit -/

/-- One bit, the next in time, comes into the remainder. -/
def crcBit (c : Byte) (bit : Bool) : Byte := crc8Shift (c ^^^ if bit then 0x80#8 else 0x00#8)

/-- The bits of a sequence, the first in time first. `crc8From_eq_crcBits` ties it to the CRC of bytes. -/
def crcBits (c : Byte) (bits : List Bool) : Byte := bits.foldl crcBit c

@[simp] theorem crcBits_nil (c : Byte) : crcBits c [] = c := rfl

@[simp] theorem crcBits_cons (c : Byte) (bit : Bool) (bits : List Bool) :
    crcBits c (bit :: bits) = crcBits (crcBit c bit) bits := rfl

@[simp] theorem crcBits_append (c : Byte) (bits more : List Bool) :
    crcBits c (bits ++ more) = crcBits (crcBits c bits) more := List.foldl_append

/-- A byte added to the remainder at once: its first bit comes in, and the others move up. -/
theorem crc8Shift_xor_eq_crcBit (c b : Byte) : crc8Shift (c ^^^ b) = crcBit c (b.getMsbD 0) ^^^ b <<< 1 := by
  have htop : crc8Shift b = crc8Shift (if b.getMsbD 0 then 0x80#8 else 0x00#8) ^^^ b <<< 1 := by
    have hbit : b.getMsbD 0 = b.getLsbD 7 := by simp [BitVec.getMsbD]
    rw [hbit, crc8Shift_eq_xor b, BitVec.xor_comm]
    cases b.getLsbD 7 <;> rfl
  rw [crcBit, crc8Shift_xor, crc8Shift_xor, htop, BitVec.xor_assoc]

theorem crc8Shifts_xor_eq_crcBits (k : Nat) (c b : Byte) :
    crc8Shifts k (c ^^^ b) = crcBits c ((List.range k).map b.getMsbD) ^^^ b <<< k := by
  induction k generalizing c b with
  | zero => simp [crc8Shifts]
  | succ k ih =>
    have hbits : (List.range (k + 1)).map b.getMsbD = b.getMsbD 0 :: (List.range k).map (b <<< 1).getMsbD := by
      simp [List.range_succ_eq_map, BitVec.getMsbD_shiftLeft]
    rw [crc8Shifts, crc8Shift_xor_eq_crcBit, ih, hbits, crcBits_cons, ← BitVec.shiftLeft_add, Nat.add_comm 1 k]

theorem crcBits_replicate_false (n : Nat) (c : Byte) : crcBits c (List.replicate n false) = crc8Shifts n c := by
  induction n generalizing c with
  | zero => rfl
  | succ n ih => simp [List.replicate_succ, ih, crcBit, crc8Shifts]

theorem bitsOf_cons (b : Byte) (s : List Byte) : bitsOf (b :: s) = bitsOf [b] ++ bitsOf s := by
  simp [bitsOf]

theorem bitsOf_singleton (b : Byte) : bitsOf [b] = (List.range 8).map b.getMsbD := by
  simp [bitsOf, List.range_succ, BitVec.getMsbD]

theorem crc8Step_eq_crcBits (c b : Byte) : crc8Step c b = crcBits c (bitsOf [b]) := by
  rw [crc8Step, crc8Shifts_xor_eq_crcBits, BitVec.shiftLeft_eq_zero le_rfl, BitVec.xor_zero, bitsOf_singleton]

theorem crc8From_eq_crcBits (c : Byte) (s : List Byte) : crc8From c s = crcBits c (bitsOf s) := by
  induction s generalizing c with
  | nil => rfl
  | cons b s ih => rw [crc8From_cons, ih, crc8Step_eq_crcBits, bitsOf_cons b s, crcBits_append]

/-! ### Error patterns -/

/-- A word passes the check where its own CRC, over all of it, is 0x00 (R83). -/
theorem checkPasses_iff (w : List Byte) : checkPasses w = true ↔ crc8 w = 0x00#8 := by
  rcases List.eq_nil_or_concat w with rfl | ⟨s, b, rfl⟩
  · simp [checkPasses, crc8, crcStart]
  · simp [checkPasses, crc8_concat, crc8Step_eq_zero]

/-- By linearity only the error pattern counts: it passes where the generator divides it (R83). -/
theorem checkPasses_flipped_iff (t : Byte) {pay e : List Byte} (he : e.length = pay.length + 2) :
    checkPasses (xorBytes (checkedBytes t pay) e) = true ↔ crcBits 0x00#8 (bitsOf e) = 0x00#8 := by
  have hlen : (checkedBytes t pay).length = e.length := by simp [checkedBytes, he]
  have hchecked : crc8 (checkedBytes t pay) = 0x00#8 := crc8_append_crc8 (t :: pay)
  rw [checkPasses_iff, crc8_xorBytes hlen, hchecked, BitVec.zero_xor, crc8_eq_from, crc8From_eq_crcBits]

/-- Clear bits around a pattern change nothing: in front the remainder stays 0x00, behind it is only shifted. -/
theorem crcBits_padded_eq_zero (before after : Nat) (bits : List Bool) :
    crcBits 0x00#8 (List.replicate before false ++ bits ++ List.replicate after false) = 0x00#8 ↔
      crcBits 0x00#8 bits = 0x00#8 := by
  simp [crcBits_replicate_false, crc8Shifts_eq_zero]

/-- `G(x)` has an even number of terms, so a step changes the parity of the remainder by that of the bit. -/
theorem parity_crcBit : ∀ (c : Byte) (bit : Bool),
    (bitsOf [crcBit c bit]).count true % 2 = ((bitsOf [c]).count true + [bit].count true) % 2 := by decide

theorem parity_crcBits (c : Byte) (bits : List Bool) :
    (bitsOf [crcBits c bits]).count true % 2 = ((bitsOf [c]).count true + bits.count true) % 2 := by
  induction bits generalizing c with
  | nil => rfl
  | cons bit bits ih =>
    have hbit := parity_crcBit c bit
    have hcount : (bit :: bits).count true = [bit].count true + bits.count true := by
      rw [← List.count_append, List.singleton_append]
    rw [crcBits_cons, ih, hcount]
    omega

theorem crcBits_ne_zero_of_odd {bits : List Bool} (h : bits.count true % 2 = 1) : crcBits 0x00#8 bits ≠ 0x00#8 := by
  intro hzero
  have hparity := parity_crcBits 0x00#8 bits
  rw [hzero, Nat.add_mod, h] at hparity
  exact absurd hparity (by decide)

/-- Eight bits are the bits of a byte. -/
theorem exists_bitsOf_singleton {bits : List Bool} (h : bits.length = 8) : ∃ b : Byte, bitsOf [b] = bits := by
  refine ⟨(BitVec.ofBoolListBE bits).cast h, ?_⟩
  rw [bitsOf_singleton]
  refine List.ext_getElem (by simp [h]) fun i hi hi' => ?_
  simp [BitVec.getMsbD_ofBoolListBE, hi']

/-- A burst, filled up with clear bits, is a byte, and a step of the table takes only the byte 0x00 to 0x00. -/
theorem crcBits_ne_zero_of_burst {burst : List Bool} (hlen : burst.length ≤ 8) (hmem : true ∈ burst) :
    crcBits 0x00#8 burst ≠ 0x00#8 := by
  intro hzero
  obtain ⟨b, hb⟩ : ∃ b : Byte, bitsOf [b] = burst ++ List.replicate (8 - burst.length) false :=
    exists_bitsOf_singleton (by simp; omega)
  have hstep : crc8Step 0x00#8 b = 0x00#8 := by
    rw [crc8Step_eq_crcBits, hb, crcBits_append, hzero, crcBits_replicate_false, crc8Shifts_zero_byte]
  obtain rfl := (crc8Step_eq_zero _ _).mp hstep
  have hclear : true ∉ bitsOf [0x00#8] := by decide
  exact hclear (hb ▸ List.mem_append_left _ hmem)

/-- Two bits `k` apart: the first, shifted `k` times, meets the second. -/
theorem crcBits_two_bits_eq_zero {k : Nat} (hk : 0 < k) :
    crcBits 0x00#8 ([true] ++ List.replicate (k - 1) false ++ [true]) = 0x00#8 ↔ crc8Shifts k 0x80#8 = 0x80#8 := by
  obtain ⟨k, rfl⟩ := Nat.exists_eq_add_one_of_ne_zero hk.ne'
  simp [crcBits_replicate_false, crcBit, crc8Shifts, crc8Shift_eq_zero, BitVec.xor_eq_zero_iff]

theorem FlipsTwoBits.crcBits_eq_zero {k : Nat} {e : List Byte} :
    FlipsTwoBits k e → (crcBits 0x00#8 (bitsOf e) = 0x00#8 ↔ crc8Shifts k 0x80#8 = 0x80#8) := by
  rintro ⟨before, after, hk, hbits⟩
  rw [← crcBits_two_bits_eq_zero hk, ← crcBits_padded_eq_zero before after ([true] ++ _ ++ [true]), hbits]
  simp only [List.append_assoc]

theorem crc8Shifts_eq_iterate (k : Nat) (c : Byte) : crc8Shifts k c = crc8Shift^[k] c := by
  induction k generalizing c with
  | zero => rfl
  | succ k ih => rw [crc8Shifts, ih, Function.iterate_succ_apply]

set_option maxRecDepth 5000 in
/-- Of the divisors of 93, `x` has the order 93 modulo `G(x)`: it comes back at 93 and not before. -/
theorem crc8Shifts_of_dvd_93 : ∀ d ∈ Nat.divisors 93, (crc8Shifts d 0x80#8 = 0x80#8 ↔ d = 93) := by
  have hdivisors : Nat.divisors 93 = {1, 3, 31, 93} := by simp [Nat.divisors_ofNat]
  rw [hdivisors]
  decide

theorem crc8Shifts_93 : crc8Shifts 93 0x80#8 = 0x80#8 :=
  (crc8Shifts_of_dvd_93 93 (Nat.mem_divisors_self 93 (by decide))).mpr rfl

/-- Distances at which `x` comes back have their greatest common divisor with 93 among them, so 93 divides each. -/
theorem dvd_of_crc8Shifts_eq {k : Nat} (hperiod : crc8Shifts k 0x80#8 = 0x80#8) : 93 ∣ k := by
  have hgcd : crc8Shifts (k.gcd 93) 0x80#8 = 0x80#8 := by
    have h93 := crc8Shifts_93
    rw [crc8Shifts_eq_iterate] at hperiod h93 ⊢
    exact Function.IsPeriodicPt.gcd hperiod h93
  have hmem : k.gcd 93 ∈ Nat.divisors 93 := Nat.mem_divisors.mpr ⟨Nat.gcd_dvd_right k 93, by decide⟩
  exact Nat.gcd_eq_right_iff_dvd.mp ((crc8Shifts_of_dvd_93 _ hmem).mp hgcd)

/-- Settles O9: the pattern alone is judged; it has odd parity, or is a burst, or two bits whose distance is compared with
the order of `x`, which is 93. -/
theorem crcDetectsErrors : Obligations.CrcDetectsErrors := by
  refine ⟨fun t pay e he hflips => ?_, fun t pay e he htwo => ?_⟩
  · rw [← Bool.not_eq_true, checkPasses_flipped_iff t he]
    rcases hflips with hone | hodd | ⟨before, burst, after, hbits, hlen, hmem⟩ | ⟨k, hk, htwo⟩
    · exact crcBits_ne_zero_of_odd (by rw [hone])
    · exact crcBits_ne_zero_of_odd hodd
    · rw [hbits, crcBits_padded_eq_zero]
      exact crcBits_ne_zero_of_burst hlen hmem
    · rw [htwo.crcBits_eq_zero]
      obtain ⟨-, -, hpos, -⟩ := htwo
      exact fun hperiod => (Nat.le_of_dvd hpos (dvd_of_crc8Shifts_eq hperiod)).not_gt hk
  · rw [checkPasses_flipped_iff t he, htwo.crcBits_eq_zero]
    exact crc8Shifts_93

end Sys2Proof.Machine
end

section
/-! PROOFS. The family of spec/41_rx_decode.md: what a buffer makes the decoder do, whatever is appended later (R88, R90 to
R93, R106), polling to the end (R106), the polling duty (R95), and the commands of the family (R86, R89, R96 to R103). -/

namespace Sys2Proof.Machine

open Sys2Proof

/-! ### One pass of the decoder -/

/-- R93: a pass waits in three cases. -/
theorem judge_wait_iff (c : Config) (buf : List Byte) :
    judge c buf = .wait ↔
      buf = [] ∨ buf = [c.sync] ∨
      ∃ (L : Byte) (body : List Byte), buf = c.sync :: L :: body ∧
        c.lenAdj ≤ L.toNat ∧ L.toNat ≤ pMax c + c.lenAdj ∧ buf.length < L.toNat - c.lenAdj + 4 := by
  constructor
  · intro hwait
    cases buf with
    | nil => exact .inl rfl
    | cons b buf =>
      obtain ⟨-, hj⟩ | ⟨rfl, rfl, -⟩ | ⟨L, body, -, -, -, hj⟩ | ⟨L, body, rfl, rfl, hL, hshort, -⟩ |
        ⟨L, t, crc, pay, more, -, -, -, -, ⟨-, hj⟩ | ⟨-, hj⟩⟩ := judge_cases c b buf
      · cases hj.symm.trans hwait
      · exact .inr (.inl rfl)
      · cases hj.symm.trans hwait
      · obtain ⟨hmin, hmax⟩ := (lengthFailure_eq_false c L).mp hL
        exact .inr (.inr ⟨L, body, rfl, hmin, hmax, by simp only [List.length_cons]; omega⟩)
      · cases hj.symm.trans hwait
      · cases hj.symm.trans hwait
  · rintro (rfl | rfl | ⟨L, body, rfl, hmin, hmax, hshort⟩)
    · exact judge_nil c
    · exact judge_sync_only c
    · simp only [List.length_cons] at hshort
      exact judge_incomplete c L body ((lengthFailure_eq_false c L).mpr ⟨hmin, hmax⟩) (by omega)

/-- A discard looks at no byte behind the buffer (R106). -/
theorem judge_discard_append {c : Config} {b : Byte} {buf : List Byte} (h : judge c (b :: buf) = .discard)
    (ext : List Byte) : judge c (b :: (buf ++ ext)) = .discard := by
  obtain ⟨hb, -⟩ | ⟨-, -, hj⟩ | ⟨L, body, rfl, rfl, hL, -⟩ | ⟨L, body, -, -, -, -, hj⟩ |
    ⟨L, t, crc, pay, more, rfl, rfl, hL, hpay, ⟨hcrc, -⟩ | ⟨-, hj⟩⟩ := judge_cases c b buf
  · exact judge_noise c b _ hb
  · cases hj.symm.trans h
  · exact judge_lengthFailure c L _ hL
  · cases hj.symm.trans h
  · have hjudge := judge_complete c L t crc pay (more ++ ext) hL hpay
    rw [if_neg hcrc] at hjudge
    simpa using hjudge
  · cases hj.symm.trans h

/-- A valid frame at the head of a buffer is taken off it, whatever stands behind it (R91). -/
theorem decodeBuf_wire {c : Config} {f : Frame} (hf : f.Valid c) (more : List Byte) :
    decodeBuf c (f.wire c ++ more) = .frame f more := by
  obtain ⟨hlen, hplen, hmax, hcrc⟩ := hf
  have hinrange : lengthFailure c f.len = false := by
    rw [lengthFailure_eq_false]
    omega
  have hjudge := judge_complete c f.len f.type f.crc f.pay more hinrange (by omega)
  have hplen' : toByte f.pay.length = f.plen := by simp [toByte, ← hplen]
  rw [if_pos hcrc.symm, hplen'] at hjudge
  have hbuf : f.wire c ++ more = c.sync :: f.len :: f.type :: (f.pay ++ f.crc :: more) := by simp [Frame.wire]
  rw [hbuf, decodeBuf_of_found _ _ _ _ _ hjudge]
  simp

/-! ### The decoder -/

/-- The decoder on a buffer and on everything that begins with it, by induction over the passes: it comes to a wait, where
bytes appended later take it on, or to a frame, which they leave as it is (R88, R106). -/
theorem decodeBuf_append_cases (c : Config) (buf : List Byte) :
    (∃ rest, decodeBuf c buf = .needMore rest ∧ judge c rest = .wait ∧
      ∀ ext, decodeBuf c (buf ++ ext) = decodeBuf c (rest ++ ext)) ∨
    (∃ f rest, decodeBuf c buf = .frame f rest ∧ ∀ ext, decodeBuf c (buf ++ ext) = .frame f (rest ++ ext)) := by
  induction buf with
  | nil => exact .inl ⟨[], rfl, rfl, fun _ => rfl⟩
  | cons b buf ih =>
    cases hj : judge c (b :: buf) with
    | wait => exact .inl ⟨b :: buf, decodeBuf_of_wait c b buf hj, hj, fun _ => rfl⟩
    | discard =>
      have hskip (ext : List Byte) : decodeBuf c (b :: buf ++ ext) = decodeBuf c (buf ++ ext) :=
        decodeBuf_of_discard c b _ (judge_discard_append hj ext)
      simpa only [hskip, decodeBuf_of_discard c b buf hj] using ih
    | found f n =>
      obtain ⟨hvalid, hbuf⟩ := judge_found hj
      refine .inr ⟨f, _, decodeBuf_of_found c b buf f n hj, fun ext => ?_⟩
      rw [← decodeBuf_wire hvalid, ← List.append_assoc, ← hbuf]

theorem judge_of_decodeBuf_needMore {c : Config} {buf rest : List Byte} (h : decodeBuf c buf = .needMore rest) :
    judge c rest = .wait := by
  obtain ⟨rest', hres, hwait, -⟩ | ⟨f, rest', hres, -⟩ := decodeBuf_append_cases c buf
  · cases hres.symm.trans h
    exact hwait
  · cases hres.symm.trans h

/-- Settles O22: both clauses are the cases of `decodeBuf_append_cases`. -/
theorem appendedBytesNeverChangeADecision : Obligations.AppendedBytesNeverChangeADecision := by
  intro c buf ext
  obtain ⟨rest', hres, -, hext⟩ | ⟨f', rest', hres, hext⟩ := decodeBuf_append_cases c buf
  · refine ⟨fun f rest h => ?_, fun rest h => ?_⟩
    · cases hres.symm.trans h
    · cases hres.symm.trans h
      exact hext ext
  · refine ⟨fun f rest h => ?_, fun rest h => ?_⟩
    · cases hres.symm.trans h
      exact hext ext
    · cases hres.symm.trans h

/-- Settles O14: what is left as it is, is what a pass waits on. -/
theorem decoderWaitsInExactlyThreeCases : Obligations.DecoderWaitsInExactlyThreeCases := by
  intro c buf
  rw [← judge_wait_iff]
  refine ⟨judge_of_decodeBuf_needMore, fun hwait => ?_⟩
  cases buf with
  | nil => rfl
  | cons b buf => exact decodeBuf_of_wait c b buf hwait

/-- R90: noise at the head is dropped. -/
theorem decodeBuf_of_noise {c : Config} {b : Byte} (hb : b ≠ c.sync) (buf : List Byte) :
    decodeBuf c (b :: buf) = decodeBuf c buf :=
  decodeBuf_of_discard c b buf (judge_noise c b buf hb)

/-- R91, R92: a length byte out of range costs the sync byte in front of it. -/
theorem decodeBuf_of_length_out_of_range {c : Config} {L : Byte}
    (hL : L.toNat < c.lenAdj ∨ pMax c + c.lenAdj < L.toNat) (body : List Byte) :
    decodeBuf c (c.sync :: L :: body) = decodeBuf c (L :: body) := by
  have hfailure : lengthFailure c L = true := by
    rw [← Bool.not_eq_false, lengthFailure_eq_false]
    omega
  exact decodeBuf_of_discard c _ _ (judge_lengthFailure c L body hfailure)

/-- Settles O12, by induction over the noise; behind a NEED_MORE stands a wait. -/
theorem decoderScansNoiseAway : Obligations.DecoderScansNoiseAway := by
  intro c noise buf
  refine ⟨fun hnoise => ?_, fun rest hres => ?_⟩
  · induction noise with
    | nil => rfl
    | cons b noise ih =>
      obtain ⟨hb, hnoise⟩ := List.forall_mem_cons.mp hnoise
      rw [List.cons_append, decodeBuf_of_noise hb, ih hnoise]
  · obtain hempty | hsync | ⟨L, body, hcandidate, -⟩ := (judge_wait_iff c rest).mp (judge_of_decodeBuf_needMore hres)
    · exact .inl hempty
    · exact .inr ⟨[], hsync⟩
    · exact .inr ⟨L :: body, hcandidate⟩

/-- Settles O13: either failure is a discard of the head. -/
theorem decoderDropsOnlyTheSyncOfAFailedCandidate : Obligations.DecoderDropsOnlyTheSyncOfAFailedCandidate := by
  intro c L t crc pay more body
  refine ⟨fun hL => decodeBuf_of_length_out_of_range hL body, fun hlen hmax hcrc => ?_⟩
  have hinrange : lengthFailure c L = false := by
    rw [lengthFailure_eq_false]
    omega
  have hjudge := judge_complete c L t crc pay more hinrange (by omega)
  rw [if_neg hcrc] at hjudge
  exact decodeBuf_of_discard c _ _ hjudge

/-! ### Polling to the end -/

/-- A frame takes bytes away (R106). -/
theorem length_rest_lt_of_frame {c : Config} {buf rest : List Byte} {f : Frame}
    (h : decodeBuf c buf = .frame f rest) : rest.length < buf.length := by
  obtain ⟨-, discarded, rfl⟩ := decoderYieldsOnlyValidFrames c buf rest f h
  have hwire : 0 < (f.wire c).length := Nat.succ_pos _
  simp only [List.length_append]
  omega

/-- Any number of polls above the length of the buffer drains it. -/
theorem drainFor_eq_of_length_lt {c : Config} {n m : Nat} {buf : List Byte} (hn : buf.length < n) (hm : buf.length < m) :
    drainFor c n buf = drainFor c m buf := by
  induction n generalizing m buf with
  | zero => exact absurd hn (Nat.not_lt_zero _)
  | succ n ih =>
    obtain ⟨m, rfl⟩ := Nat.exists_eq_add_one_of_ne_zero (Nat.ne_zero_of_lt hm)
    cases hres : decodeBuf c buf with
    | needMore rest => simp [drainFor, hres]
    | frame f rest =>
      have hless := length_rest_lt_of_frame hres
      simp [drainFor, hres, ih (m := m) (buf := rest) (by omega) (by omega)]

theorem drain_of_needMore {c : Config} {buf rest : List Byte} (h : decodeBuf c buf = .needMore rest) :
    drain c buf = ([], rest) := by
  simp [drain, drainFor, h]

theorem drain_of_frame {c : Config} {buf rest : List Byte} {f : Frame} (h : decodeBuf c buf = .frame f rest) :
    drain c buf = (f :: (drain c rest).1, (drain c rest).2) := by
  have hfuel : drainFor c buf.length rest = drain c rest :=
    drainFor_eq_of_length_lt (length_rest_lt_of_frame h) (Nat.lt_succ_self _)
  simp [drain, drainFor, h, hfuel]

/-- Draining looks at a buffer only through the decoder. -/
theorem drain_congr {c : Config} {buf buf' : List Byte} (h : decodeBuf c buf = decodeBuf c buf') :
    drain c buf = drain c buf' := by
  cases hres : decodeBuf c buf' with
  | needMore rest => rw [drain_of_needMore hres, drain_of_needMore (h.trans hres)]
  | frame f rest => rw [drain_of_frame hres, drain_of_frame (h.trans hres)]

/-- A corrupt byte in front of a frame is dropped: it is noise, or a sync byte whose length byte, the frame's own sync
byte, is out of range (R92, R106). -/
theorem decodeBuf_corrupt_byte {c : Config} (hsync : pMax c + c.lenAdj < c.sync.toNat) (x : Byte) (body : List Byte) :
    decodeBuf c (x :: c.sync :: body) = decodeBuf c (c.sync :: body) := by
  by_cases hx : x = c.sync
  · rw [hx]
    exact decodeBuf_of_length_out_of_range (.inr hsync) body
  · exact decodeBuf_of_noise hx _

/-- Settles O24: the first poll stops in front of the corrupt byte, and the second drops it. -/
theorem corruptByteBetweenFramesIsDropped : Obligations.CorruptByteBetweenFramesIsDropped := by
  intro c x t₁ t₂ p₁ p₂ hc hsync hp₁ hp₂
  have hfirst : decodeBuf c (encodeFrame c t₁ p₁ ++ [x] ++ encodeFrame c t₂ p₂) =
      .frame (frameOf c t₁ p₁) (x :: encodeFrame c t₂ p₂) := by
    rw [List.append_assoc]
    exact decodeBuf_encodeFrame hc t₁ hp₁ _
  have hsecond : decodeBuf c (x :: encodeFrame c t₂ p₂) = .frame (frameOf c t₂ p₂) [] := by
    have hframe := decodeBuf_encodeFrame hc t₂ hp₂ []
    rw [List.append_nil] at hframe
    exact (decodeBuf_corrupt_byte hsync x _).trans hframe
  rw [drain_of_frame hfirst, drain_of_frame hsecond, drain_of_needMore (decodeBuf_nil c)]

/-! ### The receive commands -/

/-- Settles O10. -/
theorem pushAppendsOrRecordsOverflow : Obligations.PushAppendsOrRecordsOverflow :=
  ⟨fun b => decode_encode (.rxPush b), fun _ _ => ⟨fun hroom => if_pos hroom, fun hfull => if_neg hfull.not_gt⟩⟩

/-- Settles O11, by the decoder's result. -/
theorem pollRunsTheDecoderOnce : Obligations.PollRunsTheDecoderOnce := by
  refine ⟨fun x => decode_encode (.rxPoll x), fun x s => ⟨fun f rest h => ?_, fun rest h => ?_⟩⟩
  · simp [exec, execRxPoll, h, State.setRxbuf, State.setFrame, State.setFv, State.respond]
  · simp [exec, execRxPoll, h, State.setRxbuf, State.setFv, State.respond]

/-- Settles O17: the decoder takes the encoded frame (`decodeBuf_encodeFrame`), and the poll writes it. -/
theorem pollDecodesWhatTheEncoderEncodes : Obligations.PollDecodesWhatTheEncoderEncodes := by
  intro x t pay rest s hc hpay hbuf
  have hframe : decodeBuf s.cfg s.rxbuf = .frame (frameOf s.cfg t pay) rest := by
    rw [hbuf]
    exact decodeBuf_encodeFrame hc t hpay rest
  exact (pollRunsTheDecoderOnce.2 x s).1 _ _ hframe

/-- Settles O18. -/
theorem flushAndClearEmptyTheirBuffers : Obligations.FlushAndClearEmptyTheirBuffers :=
  ⟨fun x => decode_encode (.rxFlush x), fun x => decode_encode (.txClear x), fun _ _ => ⟨rfl, rfl⟩⟩

/-- A length below 256 is stored whole (R12). -/
theorem toByte_toNat {n : Nat} (hn : n < 2 ^ 8) : (toByte n).toNat = n := by
  simpa [toByte] using hn

/-- Settles O19: under R33 both lengths are below 256. -/
theorem countsAnswerTheLengths : Obligations.CountsAnswerTheLengths := by
  refine ⟨fun x => decode_encode (.rxCount x), fun x => decode_encode (.txCount x), fun x s hc hs => ?_⟩
  obtain ⟨-, -, hmax, -, hcap⟩ := hc
  obtain ⟨hrx, htx, -⟩ := s.inv_iff.mp hs
  have hpMax : pMax s.cfg ≤ s.cfg.maxFrame := Nat.sub_le _ _
  have hcount : (toByte s.txPay.length).toNat = s.txPay.length := toByte_toNat (by omega)
  exact ⟨⟨_, toByte_toNat (by omega), rfl⟩, ⟨_, hcount, hcount.le.trans htx, rfl⟩⟩

/-- Settles O20. -/
theorem frameReadsAnswerTheRetainedRegisters : Obligations.FrameReadsAnswerTheRetainedRegisters :=
  ⟨fun x => decode_encode (.rxRdLen x), fun x => decode_encode (.rxRdType x), fun x => decode_encode (.rxRdPlen x),
    fun x => decode_encode (.rxRdCrc x), fun _ _ _ => ⟨rfl, rfl, rfl, rfl⟩⟩

/-- An index within `F_PAY` reads its byte. -/
theorem State.payByte_of_lt {s : State} {i : Nat} (h : i < s.fPay.length) : s.payByte i = s.fPay[i] := by
  simp [State.payByte, h]

/-- Settles O21: under R33 an index within `F_PAY` is one below `F_PLEN`. -/
theorem payloadReadIsIndexedAndRangeChecked : Obligations.PayloadReadIsIndexedAndRangeChecked := by
  refine ⟨fun i => decode_encode (.rxRdPay i), fun i s hs => ⟨fun hin => ?_, fun hout => if_neg hout.not_gt⟩⟩
  obtain ⟨-, -, ⟨hplen, -⟩, -⟩ := hs
  rw [← State.payByte_of_lt hin]
  exact if_pos (hplen ▸ hin)

/-! ### The frames of a run -/

/-- In a step that loses no received byte, a push alone adds to the buffer, and a poll alone takes from it (R22). -/
theorem step_rxbuf_of_losesNothing {s t : State} (h : step s = .next t) (hlossless : s.losesNothing = true) :
    (∃ x, s.accepted = .command (.rxPoll x)) ∨ s.yields = [] ∧ t.rxbuf = s.rxbuf ++ s.pushes := by
  have hbuf := rxbufIsAppendedAtTheEndAndTakenAtTheHead s t h
  cases ha : s.accepted with
  | reset o => simp [State.losesNothing, ha] at hlossless
  | command i =>
    rw [ha] at hbuf
    cases i with
    | rxPush b =>
      have hroom : s.rxbuf.length < s.cfg.rxCap := by simpa [State.losesNothing, ha] using hlossless
      exact .inr ⟨by simp [State.yields, ha], by simpa [State.pushes, ha, hroom] using hbuf⟩
    | rxPoll x => exact .inl ⟨x, rfl⟩
    | rxFlush x => simp [State.losesNothing, ha] at hlossless
    | _ => exact .inr ⟨by simp [State.yields, ha], by simpa [State.pushes, ha] using hbuf⟩
  | _ =>
    rw [ha] at hbuf
    exact .inr ⟨by simp [State.yields, ha], by simpa [State.pushes, ha] using hbuf⟩

/-- A poll yields a frame, or nothing, as the decoder does, and leaves what the decoder leaves (R89). -/
theorem step_poll_cases {s t : State} {x : Byte} (ha : s.accepted = .command (.rxPoll x)) (h : step s = .next t) :
    (s.yields = [] ∧ decodeBuf s.cfg s.rxbuf = .needMore t.rxbuf) ∨
    ∃ f, s.yields = [f] ∧ decodeBuf s.cfg s.rxbuf = .frame f t.rxbuf := by
  rw [State.yields_poll ha h]
  rw [step_command ha, exec_eq_after] at h
  cases h
  cases hres : decodeBuf s.cfg s.rxbuf with
  | needMore rest => simp [State.after, State.written, hres, DecodeResult.isFrame, DecodeResult.rest]
  | frame f rest =>
    simp [State.after, State.written, State.frameRegs, hres, DecodeResult.isFrame, DecodeResult.rest, DecodeResult.frameOr]

/-- Draining the stream at once gives first what this step yields, then the frames of the stream as the step leaves it,
whatever is still to come (R106). -/
theorem drain_step {s t : State} (h : step s = .next t) (hlossless : s.losesNothing = true) (ext : List Byte) :
    drain s.cfg (s.rxbuf ++ (s.pushes ++ ext)) =
      (s.yields ++ (drain s.cfg (t.rxbuf ++ ext)).1, (drain s.cfg (t.rxbuf ++ ext)).2) := by
  obtain ⟨x, ha⟩ | ⟨hyields, hbuf⟩ := step_rxbuf_of_losesNothing h hlossless
  · have hpushes : s.pushes = [] := by simp [State.pushes, ha]
    obtain ⟨hframes, hmore⟩ := appendedBytesNeverChangeADecision s.cfg s.rxbuf ext
    rw [hpushes, List.nil_append]
    obtain ⟨hyields, hres⟩ | ⟨f, hyields, hres⟩ := step_poll_cases ha h
    · rw [hyields, drain_congr (hmore _ hres)]
      rfl
    · rw [hyields, drain_of_frame (hframes _ _ hres)]
      rfl
  · rw [hyields, hbuf, List.append_assoc]
    rfl

/-- R106 item 1 over a run, both parts at once. -/
theorem drain_run {n : Nat} {s t : State} (hrun : runFor n s = .next t) (hlossless : always State.losesNothing n s = true) :
    drain s.cfg (s.rxbuf ++ collect State.pushes n s) =
      (collect State.yields n s ++ (drain s.cfg t.rxbuf).1, (drain s.cfg t.rxbuf).2) := by
  induction n generalizing s with
  | zero =>
    cases hrun
    simp [collect]
  | succ n ih =>
    obtain ⟨u, hstep, hrun⟩ := runFor_succ_eq_next.mp hrun
    rw [always_succ_of_next _ hstep, Bool.and_eq_true] at hlossless
    obtain ⟨hfirst, hlater⟩ := hlossless
    have hih := ih hrun hlater
    rw [step_keeps_cfg hstep] at hih
    rw [collect_succ_of_next _ hstep, collect_succ_of_next _ hstep, drain_step hstep hfirst, hih, List.append_assoc]

/-- Settles O23: the two parts of `drain_run`. -/
theorem framesDependOnlyOnTheStream : Obligations.FramesDependOnlyOnTheStream := by
  intro n s t hrun hlossless
  rw [drain_run hrun hlossless]
  exact ⟨rfl, rfl⟩

/-! ### The polling duty -/

/-- What the decoder waits on is shorter than the longest frame (R95). -/
theorem length_lt_maxFrame_of_wait {c : Config} (hc : c.Legal) {buf : List Byte} (h : judge c buf = .wait) :
    buf.length < c.maxFrame := by
  obtain ⟨-, hmin, -⟩ := hc
  obtain rfl | rfl | ⟨L, body, -, -, hL, hshort⟩ := (judge_wait_iff c buf).mp h
  · simp only [List.length_nil]
    omega
  · simp only [List.length_singleton]
    omega
  · unfold pMax at hL
    omega

/-- No step makes the buffer longer but by the byte it pushes (R22). -/
theorem step_length_rxbuf_le {s t : State} (h : step s = .next t) :
    t.rxbuf.length ≤ s.rxbuf.length + s.pushes.length := by
  have hbuf := rxbufIsAppendedAtTheEndAndTakenAtTheHead s t h
  split at hbuf
  · next b ha =>
    rw [hbuf, State.pushes_push ha]
    split
    · simp
    · simp
  · obtain ⟨k, -, hk⟩ := hbuf
    rw [hk, List.length_drop]
    omega
  · simp [hbuf]
  · simp [hbuf]
  · simp [hbuf]

/-- A step that has room for what it pushes does not set `RXOVF` (R87). -/
theorem step_rxovf_of_room {s t : State} (h : step s = .next t) (hroom : s.rxbuf.length + s.pushes.length ≤ s.cfg.rxCap)
    (hovf : t.rxovf = true) : s.rxovf = true := by
  obtain ⟨hrxovf, -⟩ := stickyFlagsAreSetAndClearedOnlyAsListed s t h
  obtain ⟨b, ha, hfull⟩ | ⟨hset, -⟩ := hrxovf.mp hovf
  · rw [State.pushes_push ha, List.length_singleton] at hroom
    omega
  · exact hset

/-- A run does not overflow where the buffer has room for all that the run pushes. -/
theorem runFor_rxovf_of_room {n : Nat} {s t : State} (hrun : runFor n s = .next t)
    (hroom : s.rxbuf.length + (collect State.pushes n s).length ≤ s.cfg.rxCap) (hovf : t.rxovf = true) :
    s.rxovf = true := by
  induction n generalizing s with
  | zero => cases hrun; exact hovf
  | succ n ih =>
    obtain ⟨u, hstep, hrun⟩ := runFor_succ_eq_next.mp hrun
    rw [collect_succ_of_next _ hstep, List.length_append] at hroom
    have hlen := step_length_rxbuf_le hstep
    have hlater : u.rxovf = true := ih hrun (by rw [step_keeps_cfg hstep]; omega)
    exact step_rxovf_of_room hstep (by omega) hlater

/-- Settles O16: what a NEED_MORE leaves is waited on, and leaves room for the pushes of the run. -/
theorem pollingDutyPreventsOverflow : Obligations.PollingDutyPreventsOverflow := by
  refine ⟨fun c buf rest hc hres => ?_, fun n s t hc hleft hpushes hrun => runFor_rxovf_of_room hrun ?_⟩
  · exact Nat.le_sub_one_of_lt (length_lt_maxFrame_of_wait hc (judge_of_decodeBuf_needMore hres))
  · obtain ⟨-, hmin, -, hcap, -⟩ := hc
    omega

end Sys2Proof.Machine
end

section
/-! PROOFS. The family of spec/42_tx_encode.md: the frames sent are valid (R116), the staging commands and `TX_SEND` (R108 to
R113), and the transmit commands beside the receive path (R117). -/

namespace Sys2Proof.Machine

open Sys2Proof

/-! ### The frames sent -/

/-- The encoder writes its frame as R55 lays it out (R112). -/
theorem encodeFrame_eq_wire (c : Config) (t : Byte) (pay : List Byte) :
    encodeFrame c t pay = (frameOf c t pay).wire c := rfl

/-- The encoder's frame is valid: with legal parameters both of its lengths are stored whole (R12, R17). -/
theorem frameOf_valid {c : Config} (hc : c.Legal) (t : Byte) {pay : List Byte} (hpay : pay.length ≤ pMax c) :
    (frameOf c t pay).Valid c := by
  obtain ⟨hadj, hmin, hmax, -⟩ := hc
  have hroom : pay.length + 4 ≤ c.maxFrame := by
    unfold pMax at hpay
    omega
  exact ⟨toByte_toNat (by omega), toByte_toNat (by omega), hpay, rfl⟩

/-- Settles O29: the staging is within `P_MAX` (R33), so its frame is valid, and the decoder takes a valid frame whole. -/
theorem sentFramesAreValid : Obligations.SentFramesAreValid := by
  intro x s hc hs
  obtain ⟨-, hpay, -⟩ := s.inv_iff.mp hs
  have hvalid := frameOf_valid hc s.txType hpay
  have hdecode := decodeBuf_wire hvalid []
  rw [List.append_nil, ← encodeFrame_eq_wire] at hdecode
  exact ⟨_, _, exec_eq_after (.txSend x) s, rfl, hdecode, hvalid, encodeFrame_eq_wire _ _ _⟩

/-! ### Transmit commands beside the receive path -/

/-- The state with other values of all that R117 names. -/
def State.withReceivePath (c : Byte) (m v : Bool) (buf : List Byte) (f : Frame) (s : State) : State :=
  (((s.withCrc c m).setRxbuf buf).setFv v).setFrame f

/-- The frame rule of the transmit commands: with another receive path they do and answer the same, and keep it. -/
theorem after_withReceivePath {i : Instr}
    (hi : ∃ x, i = .txSetType x ∨ i = .txPut x ∨ i = .txClear x ∨ i = .txSend x ∨ i = .txCount x)
    (s : State) (c : Byte) (m v : Bool) (buf : List Byte) (f : Frame) :
    (s.withReceivePath c m v buf f).after i = (s.after i).withReceivePath c m v buf f := by
  obtain ⟨x, rfl | rfl | rfl | rfl | rfl⟩ := hi <;> rfl

/-- Settles O32: the frame rule, for the receive path given. -/
theorem transmitPathIgnoresTheReceivePath : Obligations.TransmitPathIgnoresTheReceivePath := by
  intro i s t c m v buf pay l ty p k hi h
  obtain rfl : s.after i = t := by simpa [exec_eq_after] using h
  have hframe := after_withReceivePath hi s c m v buf ⟨l, ty, p, pay, k⟩
  exact (exec_eq_after i _).trans (congrArg _ hframe)

/-! ### The transmit commands -/

/-- Settles O26. -/
theorem setTypeStagesTheTypeByte : Obligations.SetTypeStagesTheTypeByte :=
  ⟨fun b => decode_encode (.txSetType b), fun _ _ => rfl⟩

/-- Settles O27. -/
theorem putAppendsOrRecordsOverflow : Obligations.PutAppendsOrRecordsOverflow :=
  ⟨fun b => decode_encode (.txPut b), fun _ _ => ⟨fun hroom => if_pos hroom, fun hfull => if_neg hfull.not_gt⟩⟩

/-- Settles O28: `encodeFrame` is the layout of R55. -/
theorem sendWritesOneEncodedFrame : Obligations.SendWritesOneEncodedFrame :=
  ⟨fun x => decode_encode (.txSend x), fun _ _ => rfl⟩

end Sys2Proof.Machine
end

section
/-! PROOFS. The family of spec/43_control.md: `NOP` (R120), reading and clearing the status bits (R28, R121, R123), and
illegal words (R122). -/

namespace Sys2Proof.Machine

open Sys2Proof

/-- Settles O33. -/
theorem nopChangesNothing : Obligations.NopChangesNothing :=
  ⟨fun x => decode_encode (.nop x), fun _ _ => rfl⟩

/-! ### Reading the status byte -/

/-- A flag extended to a byte is its bit 0 (R13). -/
@[simp] theorem getElem_flagByte (b : Bool) {k : Nat} (hk : k < 8) : (flagByte b)[k] = (decide (k = 0) && b) := by
  cases b with
  | false => simp [flagByte]
  | true => simp [flagByte]

/-- Settles O34: in each bit of `ST` at most one of the six shifted flags stands. -/
theorem statusReadAssemblesTheFlags : Obligations.StatusReadAssemblesTheFlags := by
  refine ⟨fun x => decode_encode (.stRead x), fun x s => ⟨s.st, rfl, ?_⟩⟩
  simp [State.st]

/-! ### Clearing sticky bits -/

/-- Bytes that agree under a mask have the same bits where the mask selects. -/
theorem getLsbD_eq_of_and_eq {m m' mask : Byte} {k : Nat} (h : m &&& mask = m' &&& mask)
    (hk : mask.getLsbD k = true) : m.getLsbD k = m'.getLsbD k := by
  have hbit := congrArg (BitVec.getLsbD · k) h
  simpa [hk] using hbit

/-- A clear reads bits 2 to 5 of its mask only (R121). -/
theorem State.clearSticky_congr {m m' : Byte} (h : m &&& 0x3C#8 = m' &&& 0x3C#8) (s : State) :
    s.clearSticky m = s.clearSticky m' := by
  have hrxovf : maskBit m 2 = maskBit m' 2 := getLsbD_eq_of_and_eq h rfl
  have htxovf : maskBit m 3 = maskBit m' 3 := getLsbD_eq_of_and_eq h rfl
  have hrange : maskBit m 4 = maskBit m' 4 := getLsbD_eq_of_and_eq h rfl
  have hill : maskBit m 5 = maskBit m' 5 := getLsbD_eq_of_and_eq h rfl
  simp only [State.clearSticky, hrxovf, htxovf, hrange, hill]

/-- What `ST_CLEAR` does, through the shared operation. -/
theorem exec_stClear (m : Byte) (s : State) : exec (.stClear m) s = .next ((s.clearSticky m).respond 0x00#8) := rfl

/-- Settles O35: a sticky bit stays where its mask bit is 0. -/
theorem statusClearClearsTheSelectedBits : Obligations.StatusClearClearsTheSelectedBits := by
  refine ⟨fun m => decode_encode (.stClear m), fun m s => ?_, fun m m' s h => ?_⟩
  · simp [exec_stClear, State.clearSticky, State.respond, maskBit, Bool.and_comm]
  · rw [exec_stClear, exec_stClear, State.clearSticky_congr h]

/-! ### Illegal words -/

/-- Settles O36: a word of the illegal ranges is rejected (O37), so the step takes it as illegal. -/
theorem illegalWordSetsOnlyIll : Obligations.IllegalWordSetsOnlyIll := by
  intro w rest s op hop hport
  have hdecode : decode w = .error (.illegalWord w) := (illegalOpcodesAreExactlyThoseOfTheTable w).1 hop
  have haccepted : s.accepted = .illegal w := (State.accepted_cons hport).trans (acceptWord_of_error hdecode)
  rw [step_illegal haccepted, State.consume, hport]
  rfl

end Sys2Proof.Machine
end

section
/-! PROOFS. The family of spec/70_reset_and_hazards.md: every step answers and takes the event presented (R150), and a reset
takes precedence over whatever overlaps it (R130, R138, R139). -/

namespace Sys2Proof.Machine

open Sys2Proof

/-! ### No step hangs -/

/-- Every step answers a next state: each kind of event has its step. -/
theorem exists_step_eq_next (s : State) : ∃ t, step s = .next t := by
  cases ha : s.accepted with
  | nothing => exact ⟨_, step_nothing ha⟩
  | reset o => exact ⟨_, step_reset ha⟩
  | illegal w => exact ⟨_, step_illegal ha⟩
  | command i => exact ⟨_, (step_command ha).trans (exec_eq_after i _)⟩

/-- Every event presented is a transaction: a word that is no command is taken as illegal (R65). -/
theorem acceptEvent_ne_nothing (e : PortEvent) : acceptEvent e ≠ .nothing := by
  have hword (w : Word) : acceptWord w ≠ .nothing := by
    cases hw : decode w with
    | ok i => simp [acceptWord_of_ok hw]
    | error x => simp [acceptWord_of_error hw]
  cases e with
  | host w => exact hword w
  | transport b => exact hword (pushWord b)
  | reset o => simp

/-- No command writes what has still to be presented. -/
@[simp] theorem State.written_port (i : Instr) (s : State) : (s.written i).port = s.port := by
  cases i <;> rfl

/-- A step with an event in front takes exactly that event. -/
theorem step_port_of_cons {s t : State} {e : PortEvent} {rest : List PortEvent} (hport : s.port = e :: rest)
    (h : step s = .next t) : t.port = rest := by
  obtain ⟨ha, -⟩ | ⟨o, -, rfl⟩ | ⟨w, -, rfl⟩ | ⟨i, v, -, rfl⟩ := step_written h
  · exact absurd ((State.accepted_cons hport).symm.trans ha) (acceptEvent_ne_nothing e)
  · simp [hport]
  · simp [hport]
  · simp [hport]

/-- A run of as many steps as events are presented takes them all. -/
theorem exists_runFor_port_nil {events : List PortEvent} {s : State} (hport : s.port = events) :
    ∃ t, runFor events.length s = .next t ∧ t.port = [] := by
  induction events generalizing s with
  | nil => exact ⟨s, rfl, hport⟩
  | cons e rest ih =>
    obtain ⟨u, hstep⟩ := exists_step_eq_next s
    obtain ⟨t, hrun, ht⟩ := ih (step_port_of_cons hport hstep)
    exact ⟨t, (runFor_succ_of_next hstep).trans hrun, ht⟩

/-- Settles O42, from one step for the first clause and by induction on the events presented for the second. -/
theorem everyStepAnswers : Obligations.EveryStepAnswers := by
  refine ⟨fun e rest s hport => ?_, fun s => exists_runFor_port_nil rfl⟩
  obtain ⟨t, hstep⟩ := exists_step_eq_next s
  exact ⟨t, hstep, step_port_of_cons hport hstep⟩

/-! ### Reset -/

/-- A reset leaves the block as `State.reset` has it, whatever the parameters and the word it overlaps (R130, R138). -/
theorem State.resetOver_sameBlock (o : Option Word) (s : State) : (s.resetOver o).SameBlock State.reset := by
  cases o with
  | none => exact ⟨rfl, rfl, rfl, rfl, rfl, rfl, rfl, rfl, rfl, rfl, rfl⟩
  | some w => exact ⟨rfl, rfl, rfl, rfl, rfl, rfl, rfl, rfl, rfl, rfl, rfl⟩

/-- Settles O53: the step is `State.resetOver`, which keeps the log, the parameters and the events still to come. -/
theorem resetTakesPrecedence : Obligations.ResetTakesPrecedence := by
  intro o rest s hport
  have hstep : step s = .next (s.consume.resetOver o) := step_reset (State.accepted_cons hport)
  exact ⟨_, hstep, State.resetOver_sameBlock o _, State.resetOver_txLog o _, State.resetOver_cfg o _,
    step_port_of_cons hport hstep⟩

end Sys2Proof.Machine
end
